-- ==== Sys2Proof/Word.lean ====
section
/-! DEFINITION. The word types of the machine (00_scope.md R10, R12): bytes, 32-bit words, 64-bit register values, and the
5-bit register index of an encoding. -/

namespace Sys2Proof

/-- One byte of memory. -/
abbrev Byte := BitVec 8

/-- A 32-bit word: an instruction word (R102), a physical address (R72), a 32-bit CP0 or device register. -/
abbrev Word := BitVec 32

/-- A 64-bit value: a general register (R24), HI, LO, pc, a virtual address, a 64-bit CP0 register. -/
abbrev DWord := BitVec 64

/-- The 5-bit index of a general register or of a CP0 register (R24, R37, R103). -/
abbrev RegIdx := BitVec 5

end Sys2Proof
end

