-- ==== Sys2Proof/Syntax.lean ====
section
/-! DEFINITION. The instructions of the machine: one constructor per row of spec/opcode_table.json (30_encoding.md R104, R109 to
R113), and the types of the kinds and addressing-mode tags (R106, R107). -/

namespace Sys2Proof

/-- The instructions. A field named `rs`, `rt`, `rd` or `base` is a register index (for the CP0 moves `rd` is a CP0 register
number); `imm` and `offset` are the raw 16 bits w[15:0]; `code`, `tcode` and `body` are fields the hardware ignores or does not
decode further. -/
inductive Instr where
  /-- 40_alu.md R150, SLL. -/
  | sll (rd rt : RegIdx) (sa : BitVec 5)
  /-- 40_alu.md R151, SRL. -/
  | srl (rd rt : RegIdx) (sa : BitVec 5)
  /-- 40_alu.md R152, SRA. -/
  | sra (rd rt : RegIdx) (sa : BitVec 5)
  /-- 40_alu.md R153, SLLV. -/
  | sllv (rd rt rs : RegIdx)
  /-- 40_alu.md R154, SRLV. -/
  | srlv (rd rt rs : RegIdx)
  /-- 40_alu.md R155, SRAV. -/
  | srav (rd rt rs : RegIdx)
  /-- 42_control.md R207, JR. -/
  | jr (rs : RegIdx)
  /-- 42_control.md R208, JALR. -/
  | jalr (rd rs : RegIdx)
  /-- 44_system.md R239, SYSCALL. -/
  | syscall (code : BitVec 20)
  /-- 44_system.md R240, BREAK. -/
  | brk (code : BitVec 20)
  /-- 44_system.md R254, SYNC. -/
  | sync
  /-- 41_muldiv.md R178, MFHI. -/
  | mfhi (rd : RegIdx)
  /-- 41_muldiv.md R180, MTHI. -/
  | mthi (rs : RegIdx)
  /-- 41_muldiv.md R179, MFLO. -/
  | mflo (rd : RegIdx)
  /-- 41_muldiv.md R181, MTLO. -/
  | mtlo (rs : RegIdx)
  /-- 40_alu.md R162, DSLLV. -/
  | dsllv (rd rt rs : RegIdx)
  /-- 40_alu.md R163, DSRLV. -/
  | dsrlv (rd rt rs : RegIdx)
  /-- 40_alu.md R164, DSRAV. -/
  | dsrav (rd rt rs : RegIdx)
  /-- 41_muldiv.md R170, MULT. -/
  | mult (rs rt : RegIdx)
  /-- 41_muldiv.md R171, MULTU. -/
  | multu (rs rt : RegIdx)
  /-- 41_muldiv.md R174, DIV. -/
  | div (rs rt : RegIdx)
  /-- 41_muldiv.md R175, DIVU. -/
  | divu (rs rt : RegIdx)
  /-- 41_muldiv.md R172, DMULT. -/
  | dmult (rs rt : RegIdx)
  /-- 41_muldiv.md R173, DMULTU. -/
  | dmultu (rs rt : RegIdx)
  /-- 41_muldiv.md R176, DDIV. -/
  | ddiv (rs rt : RegIdx)
  /-- 41_muldiv.md R177, DDIVU. -/
  | ddivu (rs rt : RegIdx)
  /-- 40_alu.md R126, ADD. -/
  | add (rd rs rt : RegIdx)
  /-- 40_alu.md R127, ADDU. -/
  | addu (rd rs rt : RegIdx)
  /-- 40_alu.md R128, SUB. -/
  | sub (rd rs rt : RegIdx)
  /-- 40_alu.md R129, SUBU. -/
  | subu (rd rs rt : RegIdx)
  /-- 40_alu.md R142, AND. -/
  | and (rd rs rt : RegIdx)
  /-- 40_alu.md R143, OR. -/
  | or (rd rs rt : RegIdx)
  /-- 40_alu.md R144, XOR. -/
  | xor (rd rs rt : RegIdx)
  /-- 40_alu.md R145, NOR. -/
  | nor (rd rs rt : RegIdx)
  /-- 40_alu.md R138, SLT. -/
  | slt (rd rs rt : RegIdx)
  /-- 40_alu.md R139, SLTU. -/
  | sltu (rd rs rt : RegIdx)
  /-- 40_alu.md R132, DADD. -/
  | dadd (rd rs rt : RegIdx)
  /-- 40_alu.md R133, DADDU. -/
  | daddu (rd rs rt : RegIdx)
  /-- 40_alu.md R134, DSUB. -/
  | dsub (rd rs rt : RegIdx)
  /-- 40_alu.md R135, DSUBU. -/
  | dsubu (rd rs rt : RegIdx)
  /-- 44_system.md R242, TGE. -/
  | tge (rs rt : RegIdx) (tcode : BitVec 10)
  /-- 44_system.md R243, TGEU. -/
  | tgeu (rs rt : RegIdx) (tcode : BitVec 10)
  /-- 44_system.md R244, TLT. -/
  | tlt (rs rt : RegIdx) (tcode : BitVec 10)
  /-- 44_system.md R245, TLTU. -/
  | tltu (rs rt : RegIdx) (tcode : BitVec 10)
  /-- 44_system.md R246, TEQ. -/
  | teq (rs rt : RegIdx) (tcode : BitVec 10)
  /-- 44_system.md R247, TNE. -/
  | tne (rs rt : RegIdx) (tcode : BitVec 10)
  /-- 40_alu.md R156, DSLL. -/
  | dsll (rd rt : RegIdx) (sa : BitVec 5)
  /-- 40_alu.md R157, DSRL. -/
  | dsrl (rd rt : RegIdx) (sa : BitVec 5)
  /-- 40_alu.md R158, DSRA. -/
  | dsra (rd rt : RegIdx) (sa : BitVec 5)
  /-- 40_alu.md R159, DSLL32. -/
  | dsll32 (rd rt : RegIdx) (sa : BitVec 5)
  /-- 40_alu.md R160, DSRL32. -/
  | dsrl32 (rd rt : RegIdx) (sa : BitVec 5)
  /-- 40_alu.md R161, DSRA32. -/
  | dsra32 (rd rt : RegIdx) (sa : BitVec 5)
  /-- 42_control.md R197, BLTZ. -/
  | bltz (rs : RegIdx) (offset : BitVec 16)
  /-- 42_control.md R198, BGEZ. -/
  | bgez (rs : RegIdx) (offset : BitVec 16)
  /-- 42_control.md R199, BLTZL. -/
  | bltzl (rs : RegIdx) (offset : BitVec 16)
  /-- 42_control.md R200, BGEZL. -/
  | bgezl (rs : RegIdx) (offset : BitVec 16)
  /-- 44_system.md R248, TGEI. -/
  | tgei (rs : RegIdx) (imm : BitVec 16)
  /-- 44_system.md R249, TGEIU. -/
  | tgeiu (rs : RegIdx) (imm : BitVec 16)
  /-- 44_system.md R250, TLTI. -/
  | tlti (rs : RegIdx) (imm : BitVec 16)
  /-- 44_system.md R251, TLTIU. -/
  | tltiu (rs : RegIdx) (imm : BitVec 16)
  /-- 44_system.md R252, TEQI. -/
  | teqi (rs : RegIdx) (imm : BitVec 16)
  /-- 44_system.md R253, TNEI. -/
  | tnei (rs : RegIdx) (imm : BitVec 16)
  /-- 42_control.md R201, BLTZAL. -/
  | bltzal (rs : RegIdx) (offset : BitVec 16)
  /-- 42_control.md R202, BGEZAL. -/
  | bgezal (rs : RegIdx) (offset : BitVec 16)
  /-- 42_control.md R203, BLTZALL. -/
  | bltzall (rs : RegIdx) (offset : BitVec 16)
  /-- 42_control.md R204, BGEZALL. -/
  | bgezall (rs : RegIdx) (offset : BitVec 16)
  /-- 42_control.md R205, J. -/
  | j (target : BitVec 26)
  /-- 42_control.md R206, JAL. -/
  | jal (target : BitVec 26)
  /-- 42_control.md R189, BEQ. -/
  | beq (rs rt : RegIdx) (offset : BitVec 16)
  /-- 42_control.md R190, BNE. -/
  | bne (rs rt : RegIdx) (offset : BitVec 16)
  /-- 42_control.md R193, BLEZ. -/
  | blez (rs : RegIdx) (offset : BitVec 16)
  /-- 42_control.md R194, BGTZ. -/
  | bgtz (rs : RegIdx) (offset : BitVec 16)
  /-- 40_alu.md R130, ADDI. -/
  | addi (rt rs : RegIdx) (imm : BitVec 16)
  /-- 40_alu.md R131, ADDIU. -/
  | addiu (rt rs : RegIdx) (imm : BitVec 16)
  /-- 40_alu.md R140, SLTI. -/
  | slti (rt rs : RegIdx) (imm : BitVec 16)
  /-- 40_alu.md R141, SLTIU. -/
  | sltiu (rt rs : RegIdx) (imm : BitVec 16)
  /-- 40_alu.md R146, ANDI. -/
  | andi (rt rs : RegIdx) (imm : BitVec 16)
  /-- 40_alu.md R147, ORI. -/
  | ori (rt rs : RegIdx) (imm : BitVec 16)
  /-- 40_alu.md R148, XORI. -/
  | xori (rt rs : RegIdx) (imm : BitVec 16)
  /-- 40_alu.md R149, LUI. -/
  | lui (rt : RegIdx) (imm : BitVec 16)
  /-- 44_system.md R257, MFC0. -/
  | mfc0 (rt rd : RegIdx)
  /-- 44_system.md R258, DMFC0. -/
  | dmfc0 (rt rd : RegIdx)
  /-- 44_system.md R259, MTC0. -/
  | mtc0 (rt rd : RegIdx)
  /-- 44_system.md R260, DMTC0. -/
  | dmtc0 (rt rd : RegIdx)
  /-- 44_system.md R262, TLBR. -/
  | tlbr
  /-- 44_system.md R263, TLBWI. -/
  | tlbwi
  /-- 44_system.md R264, TLBWR. -/
  | tlbwr
  /-- 44_system.md R265, TLBP. -/
  | tlbp
  /-- 44_system.md R266, ERET. -/
  | eret
  /-- 45_coprocessor.md R270, COP1. -/
  | cop1 (body : BitVec 26)
  /-- 45_coprocessor.md R275, COP2. -/
  | cop2 (body : BitVec 26)
  /-- 42_control.md R191, BEQL. -/
  | beql (rs rt : RegIdx) (offset : BitVec 16)
  /-- 42_control.md R192, BNEL. -/
  | bnel (rs rt : RegIdx) (offset : BitVec 16)
  /-- 42_control.md R195, BLEZL. -/
  | blezl (rs : RegIdx) (offset : BitVec 16)
  /-- 42_control.md R196, BGTZL. -/
  | bgtzl (rs : RegIdx) (offset : BitVec 16)
  /-- 40_alu.md R136, DADDI. -/
  | daddi (rt rs : RegIdx) (imm : BitVec 16)
  /-- 40_alu.md R137, DADDIU. -/
  | daddiu (rt rs : RegIdx) (imm : BitVec 16)
  /-- 43_loadstore.md R222, LDL. -/
  | ldl (rt : RegIdx) (offset : BitVec 16) (base : RegIdx)
  /-- 43_loadstore.md R223, LDR. -/
  | ldr (rt : RegIdx) (offset : BitVec 16) (base : RegIdx)
  /-- 43_loadstore.md R213, LB. -/
  | lb (rt : RegIdx) (offset : BitVec 16) (base : RegIdx)
  /-- 43_loadstore.md R215, LH. -/
  | lh (rt : RegIdx) (offset : BitVec 16) (base : RegIdx)
  /-- 43_loadstore.md R220, LWL. -/
  | lwl (rt : RegIdx) (offset : BitVec 16) (base : RegIdx)
  /-- 43_loadstore.md R217, LW. -/
  | lw (rt : RegIdx) (offset : BitVec 16) (base : RegIdx)
  /-- 43_loadstore.md R214, LBU. -/
  | lbu (rt : RegIdx) (offset : BitVec 16) (base : RegIdx)
  /-- 43_loadstore.md R216, LHU. -/
  | lhu (rt : RegIdx) (offset : BitVec 16) (base : RegIdx)
  /-- 43_loadstore.md R221, LWR. -/
  | lwr (rt : RegIdx) (offset : BitVec 16) (base : RegIdx)
  /-- 43_loadstore.md R218, LWU. -/
  | lwu (rt : RegIdx) (offset : BitVec 16) (base : RegIdx)
  /-- 43_loadstore.md R225, SB. -/
  | sb (rt : RegIdx) (offset : BitVec 16) (base : RegIdx)
  /-- 43_loadstore.md R226, SH. -/
  | sh (rt : RegIdx) (offset : BitVec 16) (base : RegIdx)
  /-- 43_loadstore.md R229, SWL. -/
  | swl (rt : RegIdx) (offset : BitVec 16) (base : RegIdx)
  /-- 43_loadstore.md R227, SW. -/
  | sw (rt : RegIdx) (offset : BitVec 16) (base : RegIdx)
  /-- 43_loadstore.md R231, SDL. -/
  | sdl (rt : RegIdx) (offset : BitVec 16) (base : RegIdx)
  /-- 43_loadstore.md R232, SDR. -/
  | sdr (rt : RegIdx) (offset : BitVec 16) (base : RegIdx)
  /-- 43_loadstore.md R230, SWR. -/
  | swr (rt : RegIdx) (offset : BitVec 16) (base : RegIdx)
  /-- 43_loadstore.md R234, LL. -/
  | ll (rt : RegIdx) (offset : BitVec 16) (base : RegIdx)
  /-- 43_loadstore.md R235, LLD. -/
  | lld (rt : RegIdx) (offset : BitVec 16) (base : RegIdx)
  /-- 43_loadstore.md R219, LD. -/
  | ld (rt : RegIdx) (offset : BitVec 16) (base : RegIdx)
  /-- 43_loadstore.md R236, SC. -/
  | sc (rt : RegIdx) (offset : BitVec 16) (base : RegIdx)
  /-- 43_loadstore.md R237, SCD. -/
  | scd (rt : RegIdx) (offset : BitVec 16) (base : RegIdx)
  /-- 43_loadstore.md R228, SD. -/
  | sd (rt : RegIdx) (offset : BitVec 16) (base : RegIdx)
  /-- 44_system.md R267, CACHE. -/
  | cache (op : BitVec 5) (offset : BitVec 16) (base : RegIdx)
  /-- 45_coprocessor.md R271, LWC1. -/
  | lwc1 (rt : RegIdx) (offset : BitVec 16) (base : RegIdx)
  /-- 45_coprocessor.md R276, LWC2. -/
  | lwc2 (rt : RegIdx) (offset : BitVec 16) (base : RegIdx)
  /-- 45_coprocessor.md R272, LDC1. -/
  | ldc1 (rt : RegIdx) (offset : BitVec 16) (base : RegIdx)
  /-- 45_coprocessor.md R277, LDC2. -/
  | ldc2 (rt : RegIdx) (offset : BitVec 16) (base : RegIdx)
  /-- 45_coprocessor.md R273, SWC1. -/
  | swc1 (rt : RegIdx) (offset : BitVec 16) (base : RegIdx)
  /-- 45_coprocessor.md R278, SWC2. -/
  | swc2 (rt : RegIdx) (offset : BitVec 16) (base : RegIdx)
  /-- 45_coprocessor.md R274, SDC1. -/
  | sdc1 (rt : RegIdx) (offset : BitVec 16) (base : RegIdx)
  /-- 45_coprocessor.md R279, SDC2. -/
  | sdc2 (rt : RegIdx) (offset : BitVec 16) (base : RegIdx)
deriving DecidableEq, Repr

/-- The operation kinds of R107: the source's nine, and `reserved` and `unmodelled`. -/
inductive InstrKind where
  | arithmetic | logical | shift | branch | jump | load | store | system | coprocessor | reserved | unmodelled
deriving DecidableEq, Repr

/-- The addressing-mode tags of R106. -/
inductive AddrMode where
  | reg | imm | baseOffset | pcRel | region | regTarget | none
deriving DecidableEq, Repr

end Sys2Proof
end

