-- ==== Sys2Proof/Decode.lean ====
section
/-! DEFINITION. The Instruction Decoder (30_encoding.md): the fields of a word (R103), the decode function by the opcode maps R108
to R112 with the must-be-zero fields of R114, the decoded record of R107, and after them the encoder (R104). -/

namespace Sys2Proof

/-! ## Kinds and tags -/

/-- The kind of each instruction: the `kind` of its opcode_table.json row (R107). -/
def Instr.kind : Instr → InstrKind
  | .sll .. | .srl .. | .sra .. | .sllv .. | .srlv .. | .srav .. | .dsllv .. | .dsrlv .. | .dsrav ..
  | .dsll .. | .dsrl .. | .dsra .. | .dsll32 .. | .dsrl32 .. | .dsra32 .. => .shift
  | .jr .. | .jalr .. | .j .. | .jal .. => .jump
  | .syscall .. | .brk .. | .sync | .tge .. | .tgeu .. | .tlt .. | .tltu .. | .teq .. | .tne .. | .tgei ..
  | .tgeiu .. | .tlti .. | .tltiu .. | .teqi .. | .tnei .. | .mfc0 .. | .dmfc0 .. | .mtc0 .. | .dmtc0 ..
  | .tlbr | .tlbwi | .tlbwr | .tlbp | .eret | .cache .. => .system
  | .mfhi .. | .mthi .. | .mflo .. | .mtlo .. | .mult .. | .multu .. | .div .. | .divu .. | .dmult ..
  | .dmultu .. | .ddiv .. | .ddivu .. | .add .. | .addu .. | .sub .. | .subu .. | .slt .. | .sltu ..
  | .dadd .. | .daddu .. | .dsub .. | .dsubu .. | .addi .. | .addiu .. | .slti .. | .sltiu .. | .daddi ..
  | .daddiu .. => .arithmetic
  | .and .. | .or .. | .xor .. | .nor .. | .andi .. | .ori .. | .xori .. | .lui .. => .logical
  | .bltz .. | .bgez .. | .bltzl .. | .bgezl .. | .bltzal .. | .bgezal .. | .bltzall .. | .bgezall ..
  | .beq .. | .bne .. | .blez .. | .bgtz .. | .beql .. | .bnel .. | .blezl .. | .bgtzl .. => .branch
  | .cop1 .. | .cop2 .. | .lwc1 .. | .lwc2 .. | .ldc1 .. | .ldc2 .. | .swc1 .. | .swc2 .. | .sdc1 ..
  | .sdc2 .. => .coprocessor
  | .ldl .. | .ldr .. | .lb .. | .lh .. | .lwl .. | .lw .. | .lbu .. | .lhu .. | .lwr .. | .lwu .. | .ll ..
  | .lld .. | .ld .. => .load
  | .sb .. | .sh .. | .swl .. | .sw .. | .sdl .. | .sdr .. | .swr .. | .sc .. | .scd .. | .sd .. => .store

/-- The addressing-mode tag of each instruction (R106; log entry 28). -/
def Instr.mode : Instr → AddrMode
  | .sll .. | .srl .. | .sra .. | .dsll .. | .dsrl .. | .dsra .. | .dsll32 .. | .dsrl32 .. | .dsra32 ..
  | .tgei .. | .tgeiu .. | .tlti .. | .tltiu .. | .teqi .. | .tnei .. | .addi .. | .addiu .. | .slti ..
  | .sltiu .. | .andi .. | .ori .. | .xori .. | .lui .. | .daddi .. | .daddiu .. => .imm
  | .sllv .. | .srlv .. | .srav .. | .mfhi .. | .mthi .. | .mflo .. | .mtlo .. | .dsllv .. | .dsrlv ..
  | .dsrav .. | .mult .. | .multu .. | .div .. | .divu .. | .dmult .. | .dmultu .. | .ddiv .. | .ddivu ..
  | .add .. | .addu .. | .sub .. | .subu .. | .and .. | .or .. | .xor .. | .nor .. | .slt .. | .sltu ..
  | .dadd .. | .daddu .. | .dsub .. | .dsubu .. | .tge .. | .tgeu .. | .tlt .. | .tltu .. | .teq .. | .tne ..
  | .mfc0 .. | .dmfc0 .. | .mtc0 .. | .dmtc0 .. => .reg
  | .jr .. | .jalr .. => .regTarget
  | .syscall .. | .brk .. | .sync | .tlbr | .tlbwi | .tlbwr | .tlbp | .eret | .cop1 .. | .cop2 .. => .none
  | .bltz .. | .bgez .. | .bltzl .. | .bgezl .. | .bltzal .. | .bgezal .. | .bltzall .. | .bgezall ..
  | .beq .. | .bne .. | .blez .. | .bgtz .. | .beql .. | .bnel .. | .blezl .. | .bgtzl .. => .pcRel
  | .j .. | .jal .. => .region
  | .ldl .. | .ldr .. | .lb .. | .lh .. | .lwl .. | .lw .. | .lbu .. | .lhu .. | .lwr .. | .lwu .. | .sb ..
  | .sh .. | .swl .. | .sw .. | .sdl .. | .sdr .. | .swr .. | .ll .. | .lld .. | .ld .. | .sc .. | .scd ..
  | .sd .. | .cache .. | .lwc1 .. | .lwc2 .. | .ldc1 .. | .ldc2 .. | .swc1 .. | .swc2 .. | .sdc1 .. | .sdc2 .. => .baseOffset

/-- The mnemonic of each instruction, as spec/opcode_table.json spells it. -/
def Instr.mnemonic : Instr → String
  | .sll .. => "SLL"
  | .srl .. => "SRL"
  | .sra .. => "SRA"
  | .sllv .. => "SLLV"
  | .srlv .. => "SRLV"
  | .srav .. => "SRAV"
  | .jr .. => "JR"
  | .jalr .. => "JALR"
  | .syscall .. => "SYSCALL"
  | .brk .. => "BREAK"
  | .sync => "SYNC"
  | .mfhi .. => "MFHI"
  | .mthi .. => "MTHI"
  | .mflo .. => "MFLO"
  | .mtlo .. => "MTLO"
  | .dsllv .. => "DSLLV"
  | .dsrlv .. => "DSRLV"
  | .dsrav .. => "DSRAV"
  | .mult .. => "MULT"
  | .multu .. => "MULTU"
  | .div .. => "DIV"
  | .divu .. => "DIVU"
  | .dmult .. => "DMULT"
  | .dmultu .. => "DMULTU"
  | .ddiv .. => "DDIV"
  | .ddivu .. => "DDIVU"
  | .add .. => "ADD"
  | .addu .. => "ADDU"
  | .sub .. => "SUB"
  | .subu .. => "SUBU"
  | .and .. => "AND"
  | .or .. => "OR"
  | .xor .. => "XOR"
  | .nor .. => "NOR"
  | .slt .. => "SLT"
  | .sltu .. => "SLTU"
  | .dadd .. => "DADD"
  | .daddu .. => "DADDU"
  | .dsub .. => "DSUB"
  | .dsubu .. => "DSUBU"
  | .tge .. => "TGE"
  | .tgeu .. => "TGEU"
  | .tlt .. => "TLT"
  | .tltu .. => "TLTU"
  | .teq .. => "TEQ"
  | .tne .. => "TNE"
  | .dsll .. => "DSLL"
  | .dsrl .. => "DSRL"
  | .dsra .. => "DSRA"
  | .dsll32 .. => "DSLL32"
  | .dsrl32 .. => "DSRL32"
  | .dsra32 .. => "DSRA32"
  | .bltz .. => "BLTZ"
  | .bgez .. => "BGEZ"
  | .bltzl .. => "BLTZL"
  | .bgezl .. => "BGEZL"
  | .tgei .. => "TGEI"
  | .tgeiu .. => "TGEIU"
  | .tlti .. => "TLTI"
  | .tltiu .. => "TLTIU"
  | .teqi .. => "TEQI"
  | .tnei .. => "TNEI"
  | .bltzal .. => "BLTZAL"
  | .bgezal .. => "BGEZAL"
  | .bltzall .. => "BLTZALL"
  | .bgezall .. => "BGEZALL"
  | .j .. => "J"
  | .jal .. => "JAL"
  | .beq .. => "BEQ"
  | .bne .. => "BNE"
  | .blez .. => "BLEZ"
  | .bgtz .. => "BGTZ"
  | .addi .. => "ADDI"
  | .addiu .. => "ADDIU"
  | .slti .. => "SLTI"
  | .sltiu .. => "SLTIU"
  | .andi .. => "ANDI"
  | .ori .. => "ORI"
  | .xori .. => "XORI"
  | .lui .. => "LUI"
  | .mfc0 .. => "MFC0"
  | .dmfc0 .. => "DMFC0"
  | .mtc0 .. => "MTC0"
  | .dmtc0 .. => "DMTC0"
  | .tlbr => "TLBR"
  | .tlbwi => "TLBWI"
  | .tlbwr => "TLBWR"
  | .tlbp => "TLBP"
  | .eret => "ERET"
  | .cop1 .. => "COP1"
  | .cop2 .. => "COP2"
  | .beql .. => "BEQL"
  | .bnel .. => "BNEL"
  | .blezl .. => "BLEZL"
  | .bgtzl .. => "BGTZL"
  | .daddi .. => "DADDI"
  | .daddiu .. => "DADDIU"
  | .ldl .. => "LDL"
  | .ldr .. => "LDR"
  | .lb .. => "LB"
  | .lh .. => "LH"
  | .lwl .. => "LWL"
  | .lw .. => "LW"
  | .lbu .. => "LBU"
  | .lhu .. => "LHU"
  | .lwr .. => "LWR"
  | .lwu .. => "LWU"
  | .sb .. => "SB"
  | .sh .. => "SH"
  | .swl .. => "SWL"
  | .sw .. => "SW"
  | .sdl .. => "SDL"
  | .sdr .. => "SDR"
  | .swr .. => "SWR"
  | .ll .. => "LL"
  | .lld .. => "LLD"
  | .ld .. => "LD"
  | .sc .. => "SC"
  | .scd .. => "SCD"
  | .sd .. => "SD"
  | .cache .. => "CACHE"
  | .lwc1 .. => "LWC1"
  | .lwc2 .. => "LWC2"
  | .ldc1 .. => "LDC1"
  | .ldc2 .. => "LDC2"
  | .swc1 .. => "SWC1"
  | .swc2 .. => "SWC2"
  | .sdc1 .. => "SDC1"
  | .sdc2 .. => "SDC2"

/-- The instructions that may not stand in a delay slot: every branch and jump, and ERET (10_state.md R31, R188). -/
def Instr.isControl (i : Instr) : Bool :=
  i.kind = .branch || i.kind = .jump || (i matches .eret)

namespace Decode

/-! ## Fields (R103) -/

/-- op, w[31:26]. -/
def opF (w : Word) : BitVec 6 := w.extractLsb' 26 6

/-- rs or base, w[25:21]. -/
def rsF (w : Word) : RegIdx := w.extractLsb' 21 5

/-- rt, w[20:16]; also the REGIMM sub-opcode and the CACHE operation. -/
def rtF (w : Word) : RegIdx := w.extractLsb' 16 5

/-- rd, w[15:11]. -/
def rdF (w : Word) : RegIdx := w.extractLsb' 11 5

/-- sa, w[10:6]. -/
def saF (w : Word) : BitVec 5 := w.extractLsb' 6 5

/-- funct, w[5:0]. -/
def functF (w : Word) : BitVec 6 := w.extractLsb' 0 6

/-- imm or offset, w[15:0]. -/
def immF (w : Word) : BitVec 16 := w.extractLsb' 0 16

/-- target, w[25:0]; also the body of a CP1 or CP2 word. -/
def targetF (w : Word) : BitVec 26 := w.extractLsb' 0 26

/-- code, w[25:6]. -/
def codeF (w : Word) : BitVec 20 := w.extractLsb' 6 20

/-- tcode, w[15:6]. -/
def tcodeF (w : Word) : BitVec 10 := w.extractLsb' 6 10

/-- co, w[25]. -/
def coF (w : Word) : BitVec 1 := w.extractLsb' 25 1

/-- w[10:0], zero in the CP0 moves (R114). -/
def low11F (w : Word) : BitVec 11 := w.extractLsb' 0 11

/-- w[24:6], zero in the CP0 functions (R114). -/
def coZeroF (w : Word) : BitVec 19 := w.extractLsb' 6 19

/-! ## The decode function (R108) -/

/-- What a word decodes to. -/
inductive Decoded where
  /-- A row of the opcode table with every must-be-zero field zero. -/
  | instr (i : Instr)
  /-- A row of the opcode table with a nonzero must-be-zero field (R114, mbz_ok = false). -/
  | nonzeroReserved (i : Instr)
  /-- A reserved word (R115); `cop0` says that its primary opcode is 16. -/
  | reserved (cop0 : Bool)
  /-- The BC0 group (R116). -/
  | unmodelled
deriving DecidableEq, Repr

/-- The instruction of a row, by whether its must-be-zero fields are zero (R114). -/
def checked (mbz : Prop) [Decidable mbz] (i : Instr) : Decoded :=
  if mbz then .instr i else .nonzeroReserved i

/-- The SPECIAL map (R110), indexed by funct. -/
def decodeSpecial (w : Word) : Decoded :=
  match (functF w).toNat with
  | 0 => checked (rsF w = 0) (.sll (rdF w) (rtF w) (saF w))
  | 2 => checked (rsF w = 0) (.srl (rdF w) (rtF w) (saF w))
  | 3 => checked (rsF w = 0) (.sra (rdF w) (rtF w) (saF w))
  | 4 => checked (saF w = 0) (.sllv (rdF w) (rtF w) (rsF w))
  | 6 => checked (saF w = 0) (.srlv (rdF w) (rtF w) (rsF w))
  | 7 => checked (saF w = 0) (.srav (rdF w) (rtF w) (rsF w))
  | 8 => checked (rtF w = 0 ∧ rdF w = 0 ∧ saF w = 0) (.jr (rsF w))
  | 9 => checked (rtF w = 0 ∧ saF w = 0) (.jalr (rdF w) (rsF w))
  | 12 => .instr (.syscall (codeF w))
  | 13 => .instr (.brk (codeF w))
  | 15 => checked (rsF w = 0 ∧ rtF w = 0 ∧ rdF w = 0 ∧ saF w = 0) .sync
  | 16 => checked (rsF w = 0 ∧ rtF w = 0 ∧ saF w = 0) (.mfhi (rdF w))
  | 17 => checked (rtF w = 0 ∧ rdF w = 0 ∧ saF w = 0) (.mthi (rsF w))
  | 18 => checked (rsF w = 0 ∧ rtF w = 0 ∧ saF w = 0) (.mflo (rdF w))
  | 19 => checked (rtF w = 0 ∧ rdF w = 0 ∧ saF w = 0) (.mtlo (rsF w))
  | 20 => checked (saF w = 0) (.dsllv (rdF w) (rtF w) (rsF w))
  | 22 => checked (saF w = 0) (.dsrlv (rdF w) (rtF w) (rsF w))
  | 23 => checked (saF w = 0) (.dsrav (rdF w) (rtF w) (rsF w))
  | 24 => checked (rdF w = 0 ∧ saF w = 0) (.mult (rsF w) (rtF w))
  | 25 => checked (rdF w = 0 ∧ saF w = 0) (.multu (rsF w) (rtF w))
  | 26 => checked (rdF w = 0 ∧ saF w = 0) (.div (rsF w) (rtF w))
  | 27 => checked (rdF w = 0 ∧ saF w = 0) (.divu (rsF w) (rtF w))
  | 28 => checked (rdF w = 0 ∧ saF w = 0) (.dmult (rsF w) (rtF w))
  | 29 => checked (rdF w = 0 ∧ saF w = 0) (.dmultu (rsF w) (rtF w))
  | 30 => checked (rdF w = 0 ∧ saF w = 0) (.ddiv (rsF w) (rtF w))
  | 31 => checked (rdF w = 0 ∧ saF w = 0) (.ddivu (rsF w) (rtF w))
  | 32 => checked (saF w = 0) (.add (rdF w) (rsF w) (rtF w))
  | 33 => checked (saF w = 0) (.addu (rdF w) (rsF w) (rtF w))
  | 34 => checked (saF w = 0) (.sub (rdF w) (rsF w) (rtF w))
  | 35 => checked (saF w = 0) (.subu (rdF w) (rsF w) (rtF w))
  | 36 => checked (saF w = 0) (.and (rdF w) (rsF w) (rtF w))
  | 37 => checked (saF w = 0) (.or (rdF w) (rsF w) (rtF w))
  | 38 => checked (saF w = 0) (.xor (rdF w) (rsF w) (rtF w))
  | 39 => checked (saF w = 0) (.nor (rdF w) (rsF w) (rtF w))
  | 42 => checked (saF w = 0) (.slt (rdF w) (rsF w) (rtF w))
  | 43 => checked (saF w = 0) (.sltu (rdF w) (rsF w) (rtF w))
  | 44 => checked (saF w = 0) (.dadd (rdF w) (rsF w) (rtF w))
  | 45 => checked (saF w = 0) (.daddu (rdF w) (rsF w) (rtF w))
  | 46 => checked (saF w = 0) (.dsub (rdF w) (rsF w) (rtF w))
  | 47 => checked (saF w = 0) (.dsubu (rdF w) (rsF w) (rtF w))
  | 48 => .instr (.tge (rsF w) (rtF w) (tcodeF w))
  | 49 => .instr (.tgeu (rsF w) (rtF w) (tcodeF w))
  | 50 => .instr (.tlt (rsF w) (rtF w) (tcodeF w))
  | 51 => .instr (.tltu (rsF w) (rtF w) (tcodeF w))
  | 52 => .instr (.teq (rsF w) (rtF w) (tcodeF w))
  | 54 => .instr (.tne (rsF w) (rtF w) (tcodeF w))
  | 56 => checked (rsF w = 0) (.dsll (rdF w) (rtF w) (saF w))
  | 58 => checked (rsF w = 0) (.dsrl (rdF w) (rtF w) (saF w))
  | 59 => checked (rsF w = 0) (.dsra (rdF w) (rtF w) (saF w))
  | 60 => checked (rsF w = 0) (.dsll32 (rdF w) (rtF w) (saF w))
  | 62 => checked (rsF w = 0) (.dsrl32 (rdF w) (rtF w) (saF w))
  | 63 => checked (rsF w = 0) (.dsra32 (rdF w) (rtF w) (saF w))
  | _ => .reserved false

/-- The REGIMM map (R111), indexed by rt. -/
def decodeRegimm (w : Word) : Decoded :=
  match (rtF w).toNat with
  | 0 => .instr (.bltz (rsF w) (immF w))
  | 1 => .instr (.bgez (rsF w) (immF w))
  | 2 => .instr (.bltzl (rsF w) (immF w))
  | 3 => .instr (.bgezl (rsF w) (immF w))
  | 8 => .instr (.tgei (rsF w) (immF w))
  | 9 => .instr (.tgeiu (rsF w) (immF w))
  | 10 => .instr (.tlti (rsF w) (immF w))
  | 11 => .instr (.tltiu (rsF w) (immF w))
  | 12 => .instr (.teqi (rsF w) (immF w))
  | 14 => .instr (.tnei (rsF w) (immF w))
  | 16 => .instr (.bltzal (rsF w) (immF w))
  | 17 => .instr (.bgezal (rsF w) (immF w))
  | 18 => .instr (.bltzall (rsF w) (immF w))
  | 19 => .instr (.bgezall (rsF w) (immF w))
  | _ => .reserved false

/-- The COP0 map (R112): the CO functions by funct when co = 1, else the moves by rs. -/
def decodeCop0 (w : Word) : Decoded :=
  if coF w = 1 then
    match (functF w).toNat with
    | 1 => checked (coZeroF w = 0) .tlbr
    | 2 => checked (coZeroF w = 0) .tlbwi
    | 6 => checked (coZeroF w = 0) .tlbwr
    | 8 => checked (coZeroF w = 0) .tlbp
    | 24 => checked (coZeroF w = 0) .eret
    | _ => .reserved true
  else
    match (rsF w).toNat with
    | 0 => checked (low11F w = 0) (.mfc0 (rtF w) (rdF w))
    | 1 => checked (low11F w = 0) (.dmfc0 (rtF w) (rdF w))
    | 4 => checked (low11F w = 0) (.mtc0 (rtF w) (rdF w))
    | 5 => checked (low11F w = 0) (.dmtc0 (rtF w) (rdF w))
    | 8 => .unmodelled
    | _ => .reserved true

/-- `Decode(w)` (R108): total over all 2^32 words, by the primary map of R109. -/
def decode (w : Word) : Decoded :=
  match (opF w).toNat with
  | 0 => decodeSpecial w
  | 1 => decodeRegimm w
  | 16 => decodeCop0 w
  | 2 => .instr (.j (targetF w))
  | 3 => .instr (.jal (targetF w))
  | 4 => .instr (.beq (rsF w) (rtF w) (immF w))
  | 5 => .instr (.bne (rsF w) (rtF w) (immF w))
  | 6 => checked (rtF w = 0) (.blez (rsF w) (immF w))
  | 7 => checked (rtF w = 0) (.bgtz (rsF w) (immF w))
  | 8 => .instr (.addi (rtF w) (rsF w) (immF w))
  | 9 => .instr (.addiu (rtF w) (rsF w) (immF w))
  | 10 => .instr (.slti (rtF w) (rsF w) (immF w))
  | 11 => .instr (.sltiu (rtF w) (rsF w) (immF w))
  | 12 => .instr (.andi (rtF w) (rsF w) (immF w))
  | 13 => .instr (.ori (rtF w) (rsF w) (immF w))
  | 14 => .instr (.xori (rtF w) (rsF w) (immF w))
  | 15 => checked (rsF w = 0) (.lui (rtF w) (immF w))
  | 17 => .instr (.cop1 (targetF w))
  | 18 => .instr (.cop2 (targetF w))
  | 20 => .instr (.beql (rsF w) (rtF w) (immF w))
  | 21 => .instr (.bnel (rsF w) (rtF w) (immF w))
  | 22 => checked (rtF w = 0) (.blezl (rsF w) (immF w))
  | 23 => checked (rtF w = 0) (.bgtzl (rsF w) (immF w))
  | 24 => .instr (.daddi (rtF w) (rsF w) (immF w))
  | 25 => .instr (.daddiu (rtF w) (rsF w) (immF w))
  | 26 => .instr (.ldl (rtF w) (immF w) (rsF w))
  | 27 => .instr (.ldr (rtF w) (immF w) (rsF w))
  | 32 => .instr (.lb (rtF w) (immF w) (rsF w))
  | 33 => .instr (.lh (rtF w) (immF w) (rsF w))
  | 34 => .instr (.lwl (rtF w) (immF w) (rsF w))
  | 35 => .instr (.lw (rtF w) (immF w) (rsF w))
  | 36 => .instr (.lbu (rtF w) (immF w) (rsF w))
  | 37 => .instr (.lhu (rtF w) (immF w) (rsF w))
  | 38 => .instr (.lwr (rtF w) (immF w) (rsF w))
  | 39 => .instr (.lwu (rtF w) (immF w) (rsF w))
  | 40 => .instr (.sb (rtF w) (immF w) (rsF w))
  | 41 => .instr (.sh (rtF w) (immF w) (rsF w))
  | 42 => .instr (.swl (rtF w) (immF w) (rsF w))
  | 43 => .instr (.sw (rtF w) (immF w) (rsF w))
  | 44 => .instr (.sdl (rtF w) (immF w) (rsF w))
  | 45 => .instr (.sdr (rtF w) (immF w) (rsF w))
  | 46 => .instr (.swr (rtF w) (immF w) (rsF w))
  | 47 => .instr (.cache (rtF w) (immF w) (rsF w))
  | 48 => .instr (.ll (rtF w) (immF w) (rsF w))
  | 49 => .instr (.lwc1 (rtF w) (immF w) (rsF w))
  | 50 => .instr (.lwc2 (rtF w) (immF w) (rsF w))
  | 52 => .instr (.lld (rtF w) (immF w) (rsF w))
  | 53 => .instr (.ldc1 (rtF w) (immF w) (rsF w))
  | 54 => .instr (.ldc2 (rtF w) (immF w) (rsF w))
  | 55 => .instr (.ld (rtF w) (immF w) (rsF w))
  | 56 => .instr (.sc (rtF w) (immF w) (rsF w))
  | 57 => .instr (.swc1 (rtF w) (immF w) (rsF w))
  | 58 => .instr (.swc2 (rtF w) (immF w) (rsF w))
  | 60 => .instr (.scd (rtF w) (immF w) (rsF w))
  | 61 => .instr (.sdc1 (rtF w) (immF w) (rsF w))
  | 62 => .instr (.sdc2 (rtF w) (immF w) (rsF w))
  | 63 => .instr (.sd (rtF w) (immF w) (rsF w))
  | _ => .reserved false

/-! ## The decoded record (R107) -/

/-- The record `Instruction` of R107. -/
structure Instruction where
  kind : InstrKind
  op : String
  rs : RegIdx
  rt : RegIdx
  rd : RegIdx
  sa : BitVec 5
  funct : BitVec 6
  imm16 : BitVec 16
  target26 : BitVec 26
  mode : AddrMode
  mbzOk : Bool
deriving DecidableEq, Repr

/-- The kind of a decoded word (R107). -/
def Decoded.kind : Decoded → InstrKind
  | .instr i => i.kind
  | .nonzeroReserved i => i.kind
  | .reserved _ => .reserved
  | .unmodelled => .unmodelled

/-- The `op` of a decoded word (R107, R108). -/
def Decoded.op : Decoded → String
  | .instr i => i.mnemonic
  | .nonzeroReserved i => i.mnemonic
  | .reserved _ => "RESERVED"
  | .unmodelled => "BC0"

/-- The addressing-mode tag of a decoded word (R106). The spec assigns none to a RESERVED or a BC0 record; None for both is the
model's choice (log entry 28). -/
def Decoded.mode : Decoded → AddrMode
  | .instr i => i.mode
  | .nonzeroReserved i => i.mode
  | .reserved _ => .none
  | .unmodelled => .none

/-- Whether every must-be-zero field of the word is zero (R107, R108). -/
def Decoded.mbzOk : Decoded → Bool
  | .nonzeroReserved _ => false
  | .instr _ | .reserved _ | .unmodelled => true

/-- Whether the decoded word may not stand in a delay slot (10_state.md R31): its kind is branch or jump, or its op is ERET. -/
def Decoded.isControl : Decoded → Bool
  | .instr i => i.isControl
  | .nonzeroReserved i => i.isControl
  | .reserved _ | .unmodelled => false

/-- The record that `Decode` returns in R107: the raw fields whatever the format, with the row's kind, op and mode. -/
def record (w : Word) : Instruction :=
  let d := decode w
  { kind := d.kind, op := d.op, rs := rsF w, rt := rtF w, rd := rdF w, sa := saF w, funct := functF w,
    imm16 := immF w, target26 := targetF w, mode := d.mode, mbzOk := d.mbzOk }

/-! ## Bytes -/

/-- The big-endian word of four bytes, the first at the lowest address (20_memory.md R73, R102). -/
def wordOfBytes (b0 b1 b2 b3 : Byte) : Word := b0 ++ b1 ++ b2 ++ b3

/-- The four bytes of a word, most significant first. -/
def bytesOfWord (w : Word) : List Byte :=
  [w.extractLsb' 24 8, w.extractLsb' 16 8, w.extractLsb' 8 8, w.extractLsb' 0 8]

/-- Decode the first instruction of a list of bytes and return the rest; `none` when fewer than four bytes are left. -/
def decodeBytes : List Byte → Option (Decoded × List Byte)
  | b0 :: b1 :: b2 :: b3 :: rest => some (decode (wordOfBytes b0 b1 b2 b3), rest)
  | _ => none

/-! ## The encoder (R104) -/

/-- Format R: op, rs, rt, rd, sa, funct. -/
def formatR (op : BitVec 6) (rs rt rd : RegIdx) (sa : BitVec 5) (funct : BitVec 6) : Word :=
  op ++ rs ++ rt ++ rd ++ sa ++ funct

/-- Format I and REGIMM: op, rs or base, rt, imm or offset. -/
def formatI (op : BitVec 6) (rs rt : RegIdx) (imm : BitVec 16) : Word := op ++ rs ++ rt ++ imm

/-- Format J and COPz: op and 26 bits. -/
def formatJ (op : BitVec 6) (target : BitVec 26) : Word := op ++ target

/-- SYSCALL, BREAK and SYNC: op 0, a 20-bit code, funct. -/
def formatCode (code : BitVec 20) (funct : BitVec 6) : Word := (0 : BitVec 6) ++ code ++ funct

/-- The register traps: op 0, rs, rt, tcode, funct. -/
def formatTrap (rs rt : RegIdx) (tcode : BitVec 10) (funct : BitVec 6) : Word :=
  (0 : BitVec 6) ++ rs ++ rt ++ tcode ++ funct

/-- COP0MOV: op 16, the sub-opcode, rt, rd, eleven zeros. -/
def formatMov (sub : BitVec 5) (rt rd : RegIdx) : Word := (16 : BitVec 6) ++ sub ++ rt ++ rd ++ (0 : BitVec 11)

/-- COP0CO: op 16, co = 1, nineteen zeros, funct. -/
def formatCo (funct : BitVec 6) : Word := (16 : BitVec 6) ++ (1 : BitVec 1) ++ (0 : BitVec 19) ++ funct

/-- The word of an instruction (R104, R109 to R112). -/
def encode : Instr → Word
  | .sll rd rt sa => formatR 0 0 rt rd sa 0
  | .srl rd rt sa => formatR 0 0 rt rd sa 2
  | .sra rd rt sa => formatR 0 0 rt rd sa 3
  | .sllv rd rt rs => formatR 0 rs rt rd 0 4
  | .srlv rd rt rs => formatR 0 rs rt rd 0 6
  | .srav rd rt rs => formatR 0 rs rt rd 0 7
  | .jr rs => formatR 0 rs 0 0 0 8
  | .jalr rd rs => formatR 0 rs 0 rd 0 9
  | .syscall code => formatCode code 12
  | .brk code => formatCode code 13
  | .sync => formatCode 0 15
  | .mfhi rd => formatR 0 0 0 rd 0 16
  | .mthi rs => formatR 0 rs 0 0 0 17
  | .mflo rd => formatR 0 0 0 rd 0 18
  | .mtlo rs => formatR 0 rs 0 0 0 19
  | .dsllv rd rt rs => formatR 0 rs rt rd 0 20
  | .dsrlv rd rt rs => formatR 0 rs rt rd 0 22
  | .dsrav rd rt rs => formatR 0 rs rt rd 0 23
  | .mult rs rt => formatR 0 rs rt 0 0 24
  | .multu rs rt => formatR 0 rs rt 0 0 25
  | .div rs rt => formatR 0 rs rt 0 0 26
  | .divu rs rt => formatR 0 rs rt 0 0 27
  | .dmult rs rt => formatR 0 rs rt 0 0 28
  | .dmultu rs rt => formatR 0 rs rt 0 0 29
  | .ddiv rs rt => formatR 0 rs rt 0 0 30
  | .ddivu rs rt => formatR 0 rs rt 0 0 31
  | .add rd rs rt => formatR 0 rs rt rd 0 32
  | .addu rd rs rt => formatR 0 rs rt rd 0 33
  | .sub rd rs rt => formatR 0 rs rt rd 0 34
  | .subu rd rs rt => formatR 0 rs rt rd 0 35
  | .and rd rs rt => formatR 0 rs rt rd 0 36
  | .or rd rs rt => formatR 0 rs rt rd 0 37
  | .xor rd rs rt => formatR 0 rs rt rd 0 38
  | .nor rd rs rt => formatR 0 rs rt rd 0 39
  | .slt rd rs rt => formatR 0 rs rt rd 0 42
  | .sltu rd rs rt => formatR 0 rs rt rd 0 43
  | .dadd rd rs rt => formatR 0 rs rt rd 0 44
  | .daddu rd rs rt => formatR 0 rs rt rd 0 45
  | .dsub rd rs rt => formatR 0 rs rt rd 0 46
  | .dsubu rd rs rt => formatR 0 rs rt rd 0 47
  | .tge rs rt tcode => formatTrap rs rt tcode 48
  | .tgeu rs rt tcode => formatTrap rs rt tcode 49
  | .tlt rs rt tcode => formatTrap rs rt tcode 50
  | .tltu rs rt tcode => formatTrap rs rt tcode 51
  | .teq rs rt tcode => formatTrap rs rt tcode 52
  | .tne rs rt tcode => formatTrap rs rt tcode 54
  | .dsll rd rt sa => formatR 0 0 rt rd sa 56
  | .dsrl rd rt sa => formatR 0 0 rt rd sa 58
  | .dsra rd rt sa => formatR 0 0 rt rd sa 59
  | .dsll32 rd rt sa => formatR 0 0 rt rd sa 60
  | .dsrl32 rd rt sa => formatR 0 0 rt rd sa 62
  | .dsra32 rd rt sa => formatR 0 0 rt rd sa 63
  | .bltz rs offset => formatI 1 rs 0 offset
  | .bgez rs offset => formatI 1 rs 1 offset
  | .bltzl rs offset => formatI 1 rs 2 offset
  | .bgezl rs offset => formatI 1 rs 3 offset
  | .tgei rs imm => formatI 1 rs 8 imm
  | .tgeiu rs imm => formatI 1 rs 9 imm
  | .tlti rs imm => formatI 1 rs 10 imm
  | .tltiu rs imm => formatI 1 rs 11 imm
  | .teqi rs imm => formatI 1 rs 12 imm
  | .tnei rs imm => formatI 1 rs 14 imm
  | .bltzal rs offset => formatI 1 rs 16 offset
  | .bgezal rs offset => formatI 1 rs 17 offset
  | .bltzall rs offset => formatI 1 rs 18 offset
  | .bgezall rs offset => formatI 1 rs 19 offset
  | .j target => formatJ 2 target
  | .jal target => formatJ 3 target
  | .beq rs rt offset => formatI 4 rs rt offset
  | .bne rs rt offset => formatI 5 rs rt offset
  | .blez rs offset => formatI 6 rs 0 offset
  | .bgtz rs offset => formatI 7 rs 0 offset
  | .addi rt rs imm => formatI 8 rs rt imm
  | .addiu rt rs imm => formatI 9 rs rt imm
  | .slti rt rs imm => formatI 10 rs rt imm
  | .sltiu rt rs imm => formatI 11 rs rt imm
  | .andi rt rs imm => formatI 12 rs rt imm
  | .ori rt rs imm => formatI 13 rs rt imm
  | .xori rt rs imm => formatI 14 rs rt imm
  | .lui rt imm => formatI 15 0 rt imm
  | .mfc0 rt rd => formatMov 0 rt rd
  | .dmfc0 rt rd => formatMov 1 rt rd
  | .mtc0 rt rd => formatMov 4 rt rd
  | .dmtc0 rt rd => formatMov 5 rt rd
  | .tlbr => formatCo 1
  | .tlbwi => formatCo 2
  | .tlbwr => formatCo 6
  | .tlbp => formatCo 8
  | .eret => formatCo 24
  | .cop1 body => formatJ 17 body
  | .cop2 body => formatJ 18 body
  | .beql rs rt offset => formatI 20 rs rt offset
  | .bnel rs rt offset => formatI 21 rs rt offset
  | .blezl rs offset => formatI 22 rs 0 offset
  | .bgtzl rs offset => formatI 23 rs 0 offset
  | .daddi rt rs imm => formatI 24 rs rt imm
  | .daddiu rt rs imm => formatI 25 rs rt imm
  | .ldl rt offset base => formatI 26 base rt offset
  | .ldr rt offset base => formatI 27 base rt offset
  | .lb rt offset base => formatI 32 base rt offset
  | .lh rt offset base => formatI 33 base rt offset
  | .lwl rt offset base => formatI 34 base rt offset
  | .lw rt offset base => formatI 35 base rt offset
  | .lbu rt offset base => formatI 36 base rt offset
  | .lhu rt offset base => formatI 37 base rt offset
  | .lwr rt offset base => formatI 38 base rt offset
  | .lwu rt offset base => formatI 39 base rt offset
  | .sb rt offset base => formatI 40 base rt offset
  | .sh rt offset base => formatI 41 base rt offset
  | .swl rt offset base => formatI 42 base rt offset
  | .sw rt offset base => formatI 43 base rt offset
  | .sdl rt offset base => formatI 44 base rt offset
  | .sdr rt offset base => formatI 45 base rt offset
  | .swr rt offset base => formatI 46 base rt offset
  | .ll rt offset base => formatI 48 base rt offset
  | .lld rt offset base => formatI 52 base rt offset
  | .ld rt offset base => formatI 55 base rt offset
  | .sc rt offset base => formatI 56 base rt offset
  | .scd rt offset base => formatI 60 base rt offset
  | .sd rt offset base => formatI 63 base rt offset
  | .cache op offset base => formatI 47 base op offset
  | .lwc1 rt offset base => formatI 49 base rt offset
  | .lwc2 rt offset base => formatI 50 base rt offset
  | .ldc1 rt offset base => formatI 53 base rt offset
  | .ldc2 rt offset base => formatI 54 base rt offset
  | .swc1 rt offset base => formatI 57 base rt offset
  | .swc2 rt offset base => formatI 58 base rt offset
  | .sdc1 rt offset base => formatI 61 base rt offset
  | .sdc2 rt offset base => formatI 62 base rt offset

end Decode

/-- The instruction the decoder reads from a table word: bit 0 of `w` is the least significant bit of the word; the word is laid
out big-endian and decoded from its bytes. Not named by the spec: the host's interface. -/
def decodeTableWord (nbits w : Nat) : Option Instr :=
  match Decode.decodeBytes (Decode.bytesOfWord (BitVec.ofNat 32 (w % 2 ^ nbits))) with
  | some (.instr i, _) => some i
  | _ => none

end Sys2Proof
end

