-- ==== Sys2Proof/Config.lean ====
section
/-! DEFINITION. What an implementation fixes: the parameters of 00_scope.md R11, which the machine takes and never writes, with the
defaults the spec states, and, as opaque constants, the free values (draws) and the OPEN parameters P_CONFIG_EC and P_EXT. -/

namespace Sys2Proof

/-- P_GRANULARITY (R11, 70_reset_and_hazards.md R328): when the devices tick and interrupts are checked. -/
inductive Granularity where
  /-- Only at the end of a frame (the default). -/
  | frame
  /-- Also after every step. -/
  | step
deriving DecidableEq, Repr

namespace Config

/-- The value supplied for P_CONFIG_EC (R11, R53): the board's clock ratio, OPEN in the spec. Free value, log entry 2. -/
opaque configEC : BitVec 3

/-- The draws of R17: `draw k` is the k-th draw since reset, of which a rule takes the low bits it needs. Free value, log
entry 3. -/
opaque draw : Nat → DWord

/-- P_EXT.read (R90): the answer of the external agents to a read, by draw index, input mask (R69), physical address and number
of bytes. Free value, log entry 4. -/
opaque extRead : Nat → Nat → Word → Nat → DWord

/-- The bytes the external agents write at a boundary or tick while ext_active (R90), by draw index. Free value, log entry 5. -/
opaque extWrites : Nat → List Host.Cell

/-- The values the external agents give the MI interrupt bits at a boundary or tick while ext_active (R301), by draw index. Free
value, log entry 5. -/
opaque extIntr : Nat → BitVec 6

end Config

/-- The parameters of R11 as plain data. P_PIF_ROM and P_EXT are not among the fields: the boot ROM lies in memory (log entry 8), and
P_EXT is the opaque functions `Config.extRead`, `Config.extWrites` and `Config.extIntr`. -/
structure Params where
  /-- P_RDRAM_SIZE: bytes of main RAM at physical 0. -/
  rdramSize : Nat
  /-- P_CLOCK_HZ. -/
  clockHz : Nat
  /-- P_FRAME_HZ. -/
  frameHz : Nat
  /-- P_CPI: cycles consumed by one step. -/
  cpi : Nat
  /-- P_COUNT_DIV: cycles per increment of Count. -/
  countDiv : Nat
  /-- P_GRANULARITY. -/
  granularity : Granularity
  /-- P_OPEN_BUS (R89): the values read at physical address and width other than 0, as a table. -/
  openBus : List ((Word × Nat) × DWord)
  /-- P_RESET_VECTOR. -/
  resetVector : DWord
  /-- P_PRID (R52). -/
  prid : Word
  /-- P_CONFIG_EC (R53). -/
  configEC : BitVec 3
  /-- P_MI_VERSION (R302). -/
  miVersion : Word
  /-- P_VI_LINES (R307). -/
  viLines : Nat
  /-- P_ROM_WINDOW (R323): bytes of the cartridge ROM window. -/
  romWindow : Nat
  /-- P_RAM_INIT (R68): the bytes of RDRAM, SP DMEM and SP IMEM that are not 0 at reset, by physical address. -/
  ramInit : List Host.Cell
  /-- P_FB_WIDTH (R327). -/
  fbWidth : Nat
  /-- P_FB_HEIGHT (R327). -/
  fbHeight : Nat
  /-- P_CACHE_CHECK = On (20_memory.md R101). -/
  cacheCheck : Bool
deriving DecidableEq, Repr

/-- The defaults of R11. -/
def Params.default : Params :=
  { rdramSize := 0x00800000
    clockHz := 93750000
    frameHz := 60
    cpi := 1
    countDiv := 2
    granularity := .frame
    openBus := []
    resetVector := 0xFFFFFFFFBFC00000
    prid := 0x00000B22
    configEC := Config.configEC
    miVersion := 0x02020102
    viLines := 525
    romWindow := 0x0FC00000
    ramInit := []
    fbWidth := 320
    fbHeight := 240
    cacheCheck := false }

/-- P_BUDGET (R11): cycles per frame, floor(P_CLOCK_HZ / P_FRAME_HZ). -/
def Params.budget (p : Params) : Nat := p.clockHz / p.frameHz

/-- P_OPEN_BUS(pa, n) (R11, R89): 0 where the table has no entry. -/
def Params.openBusAt (p : Params) (pa : Word) (bytes : Nat) : DWord := (p.openBus.lookup (pa, bytes)).getD 0

/-- P_RAM_INIT: the cells of `ramInit` that lie in RDRAM, SP DMEM or SP IMEM. -/
def Params.ramContents (p : Params) : List Host.Cell :=
  p.ramInit.filter (fun c => decide (c.1 < 0x04002000 ∧ (c.1 < p.rdramSize ∨ 0x04000000 ≤ c.1)))

/-- The values with which the parameters describe a machine: nothing is divided by 0, a step consumes cycles, and the windows
fit the physical map (R86). RDRAM is a whole number of cache lines. The spec states no ranges (log entry 1). -/
def Params.legal (p : Params) : Prop :=
  0 < p.budget ∧ 0 < p.cpi ∧ 0 < p.countDiv ∧ 0 < p.rdramSize ∧ p.rdramSize % 16 = 0 ∧ p.rdramSize ≤ 0x03F00000 ∧
  p.romWindow ≤ 0x0FC00000

end Sys2Proof
end

