-- ==== Sys2Proof/Machine/State.lean ====
section
/-! DEFINITION. The state of the machine as plain data: the ExecutionContext of 10_state.md R23, every piece of state that file
lists, and the state after reset (R71). -/

namespace Sys2Proof.Machine

/-! ## Reasons a step can stop -/

/-- The faults of the machine: none. Every fault the spec names is an exception that the machine takes and goes on from (60_exceptions.md
R280), every physical address belongs to a region and an unmapped read is an open-bus read (20_memory.md R85, R89), and nothing in the
block raises a bus error (R283). Log entry 12. -/
inductive Fault
deriving DecidableEq, Repr

/-- The refusals: `refuse Reason` of 00_scope.md R18, by the spec's own reasons (93_implementation_defined.md section 4). Each is safe: the
model gives no next state where the spec gives none. -/
inductive Refusal where
  /-- Raised by `exec` for an instruction whose meaning is not written; no arm of this model does. Safe. -/
  | notModelled (mnemonic : String)
  /-- Raised by the step for the BC0 group (R116). Safe. -/
  | unmodelledInstruction
  /-- Raised by the step for a nonzero must-be-zero field (R114). Safe. -/
  | nonzeroReservedField
  /-- Raised by the step for a branch, jump or ERET in a delay slot (R31). Safe. -/
  | branchInDelaySlot
  /-- Raised by JALR with rd = rs and by the linking branches with rs = 31 (R186). Safe. -/
  | linkOverwritesSource
  /-- Raised by MTC0 to Status with KSU = 11 (R256). Safe. -/
  | unpredictableMode
  /-- Raised by a write of HI or LO within two steps after MFHI or MFLO (R167, R334). Safe. -/
  | hiLoHazard
  /-- Raised by a CP1 instruction with Status.CU1 = 1 (R269). Safe. -/
  | fpuNotModelled
  /-- Raised by a CP2 instruction with Status.CU2 = 1 (R269). Safe. -/
  | noCoprocessor2
  /-- Raised by DMTC0 to a 32-bit CP0 register (R260). Safe. -/
  | dmtc0To32BitRegister
  /-- Raised by a write of Config with BE = 0 (R74, R256). Safe. -/
  | littleEndianConfig
  /-- Raised by the translation of a user-mode access with Status.RE = 1 (R75, R91). Safe. -/
  | reverseEndian
  /-- Raised by the translation of an address that is not a sext32 value (R93). Safe. -/
  | nonSext32Address
  /-- Raised by a translation or TLBP that matches two or more TLB entries (R95, R265). Safe. -/
  | tlbMultipleMatch
  /-- Raised by a translation through a large page whose PFN has nonzero low bits (R95). Safe. -/
  | pfnNotPageAligned
  /-- Raised by TLBWI and TLBWR with an illegal PageMask (R261). Safe. -/
  | illegalPageMask
  /-- Raised by TLBR and TLBWI with Index[5:0] > 31 (R262, R263). Safe. -/
  | tlbIndexOutOfRange
  /-- Raised by TLBWR with Wired[5:0] > 31 (R264). Safe. -/
  | wiredOutOfRange
  /-- Raised by a Watch match with EXL or ERL set (R291). Safe. -/
  | watchDeferred
  /-- Raised by CACHE with cache field 2 or 3 (R267). Safe. -/
  | noSuchCache
  /-- Raised by a reserved CACHE operation (R267). Safe. -/
  | reservedCacheOp
  /-- Raised by CACHE Index Store Tag with TagLo.PState not 0 (R267). Safe. -/
  | tagState
  /-- Raised by the cache checker (R101, R267) and by Create Dirty Exclusive outside RAM (R267). Safe. -/
  | cacheState
  /-- Raised by an access to a Refuse region (R87, R88). Safe. -/
  | unmodelledRegion
  /-- Raised by a fetch from an MI, VI, External or Refuse region (R79). Safe. -/
  | fetchFromDevice
  /-- Raised by a store to the cartridge ROM or the PIF ROM (R88). Safe. -/
  | romWrite
  /-- Raised by a read other than a word of the cartridge ROM or the PIF ROM (R87). Safe. -/
  | romWidth
  /-- Raised by an access other than a word to SP memory, MI or VI (R87, R88). Safe. -/
  | deviceWidth
  /-- Raised by a partial store to MI or VI (R78). Safe. -/
  | partialDeviceWrite
  /-- Raised by a write of MI_MODE or MI_MASK that sets and clears the same bit (R304). Safe. -/
  | miSetAndClear
deriving DecidableEq, Repr

/-! ## Small types -/

/-- The run state of the core (R61). -/
inductive RunState where
  | idle | running | halted
deriving DecidableEq, Repr

/-- The privilege modes (60_exceptions.md R294). -/
inductive Mode where
  | kernel | supervisor | user
deriving DecidableEq, Repr

/-- The kinds of access that are translated (20_memory.md R91). -/
inductive AccessKind where
  | fetch | load | store
deriving DecidableEq, Repr

/-- The names of the exceptions the machine raises (60_exceptions.md R282). -/
inductive ExcName where
  | int | mod | tlbL | tlbS | adEL | adES | sys | bp | ri | cpU | ov | tr | watch
deriving DecidableEq, Repr

/-- An exception with the information its entry records (60_exceptions.md R286, R289, R290). `store` says that the access was a
store; `va` is the virtual address. -/
inductive Exc where
  /-- The interrupt. -/
  | int
  /-- System Call. -/
  | sys
  /-- Breakpoint. -/
  | bp
  /-- Reserved Instruction. -/
  | ri
  /-- Coprocessor Unusable of coprocessor `ce`. -/
  | cpU (ce : BitVec 2)
  /-- Integer Overflow. -/
  | ov
  /-- Trap. -/
  | tr
  /-- Watch. -/
  | watch
  /-- Address Error. -/
  | addressError (store : Bool) (va : DWord)
  /-- TLB Refill: no entry matches. -/
  | tlbRefill (store : Bool) (va : DWord)
  /-- TLB Invalid: the matching page has V = 0. -/
  | tlbInvalid (store : Bool) (va : DWord)
  /-- TLB Modified: a store to a page with D = 0. -/
  | tlbModified (va : DWord)
deriving DecidableEq, Repr

/-! ## The parts of the state -/

/-- One page descriptor of a TLB entry (R60). -/
structure TlbPage where
  pfn : BitVec 20
  c : BitVec 3
  d : Bool
  v : Bool
deriving DecidableEq, Repr

/-- One TLB entry (R60). -/
structure TlbEntry where
  mask : BitVec 12
  r : BitVec 2
  vpn2 : BitVec 27
  asid : BitVec 8
  g : Bool
  even : TlbPage
  odd : TlbPage
deriving DecidableEq, Repr

/-- The stored CP0 registers (R38 to R58). Random, PRId, CacheErr, TagHi and the reserved registers have no storage; the EC field of
Config and the bits IP[7:2] of Cause are not stored. -/
structure Cp0 where
  index : Word
  entryLo0 : DWord
  entryLo1 : DWord
  context : DWord
  pageMask : Word
  wired : Word
  badVAddr : DWord
  count : Word
  entryHi : DWord
  compare : Word
  status : Word
  cause : Word
  epc : DWord
  config : Word
  llAddr : Word
  watchLo : Word
  watchHi : Word
  xContext : DWord
  pErr : Word
  tagLo : Word
  errorEpc : DWord
deriving DecidableEq, Repr

/-- The MI interrupt controller (R67): the bits of `intr` and `mask` are 0 SP, 1 SI, 2 AI, 3 VI, 4 PI, 5 DP. -/
structure Mi where
  initLength : BitVec 7
  initMode : Bool
  ebusTest : Bool
  rdramRegMode : Bool
  intr : BitVec 6
  mask : BitVec 6
deriving DecidableEq, Repr

/-- The video-timing device (R67). -/
structure Vi where
  reg : Vector Word 14
  cycles : BitVec 64
deriving DecidableEq, Repr

/-- The timer's device state (R67). -/
structure Timer where
  pending : Bool
  countFrac : Nat
deriving DecidableEq, Repr

/-- The sets of the cache checker (R70, 20_memory.md R101): data lines pa[31:4], instruction lines pa[31:5], cache indices. Each set
is a list without repeats. -/
structure CacheSets where
  dcPresent : List (BitVec 28)
  dcDirty : List (BitVec 28)
  dcStale : List (BitVec 28)
  icPresent : List (BitVec 27)
  icStale : List (BitVec 27)
  dcInit : List (BitVec 9)
  icInit : List (BitVec 9)
deriving DecidableEq, Repr

/-- FrameResult (70_reset_and_hazards.md R329) without the framebuffer, which is a function of the state (R327). -/
structure FrameResult where
  faulted : Bool
  cycles : Nat
  refused : Option Refusal
deriving DecidableEq, Repr

/-- The frame in progress: the local variables of `runFrame` (R328), whether a frame is open, and the last frame's result (log
entries 6 and 13). -/
structure Frame where
  open_ : Bool
  fc : Nat
  ticked : Nat
  faulted : Bool
  last : Option FrameResult
deriving DecidableEq, Repr

/-- Physical memory: the bytes that differ from what an unlisted byte reads as, at rising addresses (R68, log entries 10 and 11). -/
abbrev Memory := List Host.Cell

/-- The ExecutionContext (R23). -/
structure State where
  /-- r0..r31 (R24); entry 0 is never read or written (R25). -/
  regs : Vector DWord 32
  /-- pc (R28). -/
  pc : DWord
  /-- next_pc (R28). -/
  nextPc : DWord
  /-- in_delay_slot (R28). -/
  inDelaySlot : Bool
  /-- HI (R34). -/
  hi : DWord
  /-- LO (R34). -/
  lo : DWord
  /-- LLbit (R36). -/
  llbit : Bool
  /-- The CP0 registers (R37). -/
  cp0 : Cp0
  /-- The TLB (R60). -/
  tlb : Vector TlbEntry 32
  /-- The run state (R61). -/
  core : RunState
  /-- should_run (R62). -/
  shouldRun : Bool
  /-- The cycle counter (R63). -/
  cycles : BitVec 64
  /-- The refusal mark (R64). -/
  refused : Option Refusal
  /-- hi_read_age (R66). -/
  hiReadAge : Nat
  /-- lo_read_age (R66). -/
  loReadAge : Nat
  /-- The MI (R67). -/
  mi : Mi
  /-- The VI (R67). -/
  vi : Vi
  /-- The timer (R67). -/
  timer : Timer
  /-- RDRAM, SP DMEM, SP IMEM, the cartridge ROM image and the PIF ROM, by physical address (R68, R86). -/
  mem : Memory
  /-- rom_len, the length of the cartridge ROM image (R68). -/
  romLen : Nat
  /-- Whether P_PIF_ROM is present (00_scope.md R11, R68). -/
  pifPresent : Bool
  /-- input_mask (R69). -/
  inputMask : Nat
  /-- pending_input (R69). -/
  pendingInput : Option Nat
  /-- ext_active (R70). -/
  extActive : Bool
  /-- The cache checker's sets (R70). -/
  cache : CacheSets
  /-- The parameters (00_scope.md R11); never written by the machine (log entries 1 and 15). -/
  params : Params
  /-- The frame in progress (70_reset_and_hazards.md R328). -/
  frame : Frame
  /-- faultKind of the last StepResult (R32): the synchronous exception the step entered. The model's own field (log entry 13). -/
  stepFault : Option ExcName
  /-- How many draws have been taken (00_scope.md R17). The model's own field (log entry 3). -/
  draws : Nat
deriving DecidableEq, Repr

/-! ## Reset -/

/-- A TLB page with every field 0 (R60). -/
def TlbPage.zero : TlbPage := { pfn := 0, c := 0, d := false, v := false }

/-- A TLB entry with every field 0 (R60). -/
def TlbEntry.zero : TlbEntry :=
  { mask := 0, r := 0, vpn2 := 0, asid := 0, g := false, even := .zero, odd := .zero }

/-- The CP0 registers after reset (R71): Status 0x0040_0004, Config 0x0006_E460 below the EC field, every other register 0. -/
def Cp0.reset : Cp0 :=
  { index := 0, entryLo0 := 0, entryLo1 := 0, context := 0, pageMask := 0, wired := 0, badVAddr := 0, count := 0, entryHi := 0,
    compare := 0, status := 0x00400004, cause := 0, epc := 0, config := 0x0006E460, llAddr := 0, watchLo := 0, watchHi := 0,
    xContext := 0, pErr := 0, tagLo := 0, errorEpc := 0 }

/-- The MI after reset (70_reset_and_hazards.md R319). -/
def Mi.reset : Mi :=
  { initLength := 0, initMode := false, ebusTest := false, rdramRegMode := false, intr := 0, mask := 0 }

/-- The VI after reset (R319). -/
def Vi.reset : Vi := { reg := Vector.replicate 14 0, cycles := 0 }

/-- The timer after reset (R319). -/
def Timer.reset : Timer := { pending := false, countFrac := 0 }

/-- The cache checker's sets after reset: empty (R70). -/
def CacheSets.empty : CacheSets :=
  { dcPresent := [], dcDirty := [], dcStale := [], icPresent := [], icStale := [], dcInit := [], icInit := [] }

/-- No frame open and no frame run yet (log entries 6 and 13). -/
def Frame.initial : Frame := { open_ := false, fc := 0, ticked := 0, faulted := false, last := .none }

/-- The machine with parameters `p` right after `create`, `start` and `reset` (70_reset_and_hazards.md R317, R324, R318): every
element at its value in R71; the elements reset leaves unchanged at their values in a started new context (log entry 7). -/
def State.fresh (p : Params) : State :=
  { regs := Vector.replicate 32 0
    pc := p.resetVector
    nextPc := p.resetVector + 4
    inDelaySlot := false
    hi := 0
    lo := 0
    llbit := false
    cp0 := Cp0.reset
    tlb := Vector.replicate 32 TlbEntry.zero
    core := .running
    shouldRun := true
    cycles := 0
    refused := none
    hiReadAge := 0
    loReadAge := 0
    mi := Mi.reset
    vi := Vi.reset
    timer := Timer.reset
    mem := p.ramContents
    romLen := 0
    pifPresent := false
    inputMask := 0
    pendingInput := none
    extActive := false
    cache := CacheSets.empty
    params := p
    frame := Frame.initial
    stepFault := none
    draws := 0 }

/-- The machine right after reset, with the parameters at their defaults. -/
def State.reset : State := State.fresh Params.default

end Sys2Proof.Machine
end

