-- ==== Sys2Proof/Machine/Operands.lean ====
section
/-! DEFINITION. Operand forms and bit fields: the immediates and targets of 30_encoding.md R105, the sext32 notation of 00_scope.md R13,
access widths (20_memory.md R83), and fields of registers. -/

namespace Sys2Proof.Machine

/-! ## Widths and fields -/

/-- The access widths (R83). -/
inductive Width where
  | byte | half | word | dword
deriving DecidableEq, Repr

/-- The number of bytes of a width. -/
def Width.bytes : Width → Nat
  | .byte => 1
  | .half => 2
  | .word => 4
  | .dword => 8

/-- The low `w.bytes` bytes of a value. -/
def Width.trunc (w : Width) (v : DWord) : DWord :=
  match w with
  | .byte => (v.setWidth 8).setWidth 64
  | .half => (v.setWidth 16).setWidth 64
  | .word => (v.setWidth 32).setWidth 64
  | .dword => v

/-- `pa & ~(n-1)`: the naturally aligned unit that holds a physical address (20_memory.md R80). -/
def alignDown (pa : Word) (w : Width) : Word := pa &&& ~~~(BitVec.ofNat 32 (w.bytes - 1))

/-- `v[lo+n-1 : lo] <- x`, every other bit unchanged. -/
def putField {w n : Nat} (lo : Nat) (x : BitVec n) (v : BitVec w) : BitVec w :=
  (v &&& ~~~((BitVec.allOnes n).setWidth w <<< lo)) ||| (x.setWidth w <<< lo)

/-- A Bool as a one-bit vector. -/
def bit (b : Bool) : BitVec 1 := BitVec.ofBool b

/-! ## Words in 64-bit registers (R13) -/

/-- `v[31:0]`. -/
def low32 (v : DWord) : Word := v.setWidth 32

/-- `sext_64` of a word. -/
def sext32 (w : Word) : DWord := w.signExtend 64

/-- `zext_64` of a word. -/
def zext32 (w : Word) : DWord := w.setWidth 64

/-- `IsSext32(v)`: v is the sign extension of its low word. -/
def isSext32 (v : DWord) : Bool := v == sext32 (low32 v)

/-- `quot(a, b)`: division that truncates toward zero (R13). -/
def quot (a b : Int) : Int := Int.tdiv a b

/-- `rem(a, b) = a - b * quot(a, b)` (R13). -/
def rem (a b : Int) : Int := a - b * quot a b

/-! ## Immediate forms (R105) -/

/-- simm: the sign-extended 16-bit immediate or offset. -/
def simm (imm : BitVec 16) : DWord := imm.signExtend 64

/-- zimm: the zero-extended 16-bit immediate. -/
def zimm (imm : BitVec 16) : DWord := imm.setWidth 64

/-- upper: the immediate in bits [31:16], sign-extended. -/
def upper (imm : BitVec 16) : DWord := sext32 (imm ++ (0 : BitVec 16))

/-- boff: the branch offset times 4, sign-extended. -/
def boff (offset : BitVec 16) : DWord := (offset ++ (0 : BitVec 2)).signExtend 64

/-- The target of a conditional branch at `pc` (42_control.md R184). -/
def branchTarget (pc : DWord) (offset : BitVec 16) : DWord := pc + 4 + boff offset

/-- The target of J and JAL at `pc` (R184): the upper 36 bits of the delay slot's address, then target and two zeros. -/
def jumpTarget (pc : DWord) (target : BitVec 26) : DWord :=
  ((pc + 4).extractLsb' 28 36) ++ target ++ (0 : BitVec 2)

end Sys2Proof.Machine
end

