-- ==== Sys2Proof/Machine/Memory.lean ====
section
/-! DEFINITION. Physical memory as a sorted list of cells (10_state.md R68), with its byte order (20_memory.md R73). -/

namespace Sys2Proof.Machine

/-- What a byte that the list does not hold reads as (log entry 10): P_RAM_INIT (R68) is a list of the bytes that differ from it. -/
def unlistedByte : Byte := 0

/-- The byte at a physical address. -/
def Memory.read : Memory → Nat → Byte
  | [], _ => unlistedByte
  | (k, v) :: m, a => if k = a then v else Memory.read m a

/-- Memory without the cell of an address. -/
def Memory.erase : Memory → Nat → Memory
  | [], _ => []
  | (k, v) :: m, a => if k = a then Memory.erase m a else (k, v) :: Memory.erase m a

/-- Memory with a cell put in before the first higher address. -/
def Memory.insert : Memory → Nat → Byte → Memory
  | [], a, v => [(a, v)]
  | (k, w) :: m, a, v => if a < k then (a, v) :: (k, w) :: m else (k, w) :: Memory.insert m a v

/-- Memory after a byte is written: the canonical form is kept. -/
def Memory.write (m : Memory) (a : Nat) (v : Byte) : Memory :=
  if v = unlistedByte then Memory.erase m a else Memory.insert (Memory.erase m a) a v

/-- The cells' addresses rise strictly, from above `lo`. -/
def Memory.risingFrom : Nat → Memory → Bool
  | _, [] => true
  | lo, (k, _) :: m => decide (lo < k) && Memory.risingFrom k m

/-- The cells' addresses rise strictly. -/
def Memory.rising : Memory → Bool
  | [] => true
  | (k, _) :: m => Memory.risingFrom k m

/-- The canonical form: addresses strictly rising, and no cell equal to what an unlisted byte reads as. -/
def Memory.wf (m : Memory) : Bool := Memory.rising m && m.all (fun c => c.2 != unlistedByte)

/-- The big-endian value of `n` bytes from an address (R73): the byte at `a` is the most significant. -/
def Memory.readBE (m : Memory) (a : Nat) : Nat → DWord
  | 0 => 0
  | n + 1 => (Memory.readBE m a n <<< 8) ||| (Memory.read m (a + n)).setWidth 64

/-- Memory after the big-endian value `v` of `n` bytes is written from an address (R73), of which only the bytes at the offsets `j`
with bit `j` of `mask` set are written (R78). -/
def Memory.writeBE (m : Memory) (a : Nat) (mask : BitVec 8) : Nat → DWord → Memory
  | 0, _ => m
  | n + 1, v =>
    let m' := Memory.writeBE m a mask n (v >>> 8)
    if mask.getLsbD n then Memory.write m' (a + n) (v.setWidth 8) else m'

/-- Every byte is selected. -/
def fullMask : BitVec 8 := BitVec.allOnes 8

/-- Byte offsets lo..hi are selected (R229 to R232). -/
def byteMask (lo hi : Nat) : BitVec 8 := (BitVec.allOnes 8 <<< lo) &&& (BitVec.allOnes 8 >>> (7 - hi))

/-- Whether a mask selects every byte of an `n`-byte unit. -/
def selectsAll (mask : BitVec 8) (n : Nat) : Bool := (List.range n).all (fun j => mask.getLsbD j)

/-- Memory after a list of bytes is written from an address upwards. -/
def Memory.writeBytes (m : Memory) (a : Nat) : List Byte → Memory
  | [] => m
  | b :: bs => Memory.writeBytes (Memory.write m a b) (a + 1) bs

end Sys2Proof.Machine
end

