-- ==== Sys2Proof/Machine/Devices.lean ====
section
/-! DEFINITION. The devices of the block (60_exceptions.md R298, R302 to R313): the MI interrupt controller, the VI timing device and the
Count/Compare timer, their register reads and writes, their ticks and their resets (70_reset_and_hazards.md R319). -/

namespace Sys2Proof.Machine

/-! ## Interrupt lines -/

/-- Bit number of the VI interrupt in mi_intr and mi_mask (R302). -/
def miVi : Nat := 3

/-- `mi_intr.VI <- b`. -/
def Mi.setVi (m : Mi) (b : Bool) : Mi := { m with intr := putField miVi (bit b) m.intr }

/-- `mi_intr.DP <- 0`. -/
def Mi.clearDp (m : Mi) : Mi := { m with intr := putField 5 (0 : BitVec 1) m.intr }

/-- IP2: `(mi_intr & mi_mask) != 0` (R298). -/
def Mi.line (m : Mi) : Bool := m.intr &&& m.mask != 0

/-! ## MI registers (R302 to R304) -/

/-- `MIRead(off)` (R303), off one of 0, 4, 8, 12. -/
def miRead (p : Params) (m : Mi) (off : Nat) : Word :=
  match off with
  | 0 => (bit m.rdramRegMode ++ bit m.ebusTest ++ bit m.initMode ++ m.initLength).setWidth 32
  | 4 => p.miVersion
  | 8 => m.intr.setWidth 32
  | _ => m.mask.setWidth 32

/-- A one-bit field written by a clear bit and a set bit (R304). -/
def clearSet (old clear set : Bool) : Bool := if set then true else if clear then false else old

/-- The write of MI_MODE (R304). -/
def miWriteMode (m : Mi) (v : Word) : Except Refusal Mi :=
  if (v.getLsbD 7 && v.getLsbD 8) || (v.getLsbD 9 && v.getLsbD 10) || (v.getLsbD 12 && v.getLsbD 13) then
    .error .miSetAndClear
  else
    let m := if v.getLsbD 11 then m.clearDp else m
    .ok { m with
      initLength := v.extractLsb' 0 7
      initMode := clearSet m.initMode (v.getLsbD 7) (v.getLsbD 8)
      ebusTest := clearSet m.ebusTest (v.getLsbD 9) (v.getLsbD 10)
      rdramRegMode := clearSet m.rdramRegMode (v.getLsbD 12) (v.getLsbD 13) }

/-- Bit `k` of mi_mask after a write of MI_MASK (R304). -/
def miMaskBit (old : BitVec 6) (v : Word) (k : Nat) : Bool :=
  clearSet (old.getLsbD k) (v.getLsbD (2 * k)) (v.getLsbD (2 * k + 1))

/-- The write of MI_MASK (R304). -/
def miWriteMask (m : Mi) (v : Word) : Except Refusal Mi :=
  if (List.range 6).any (fun k => v.getLsbD (2 * k) && v.getLsbD (2 * k + 1)) then .error .miSetAndClear
  else
    .ok { m with
      mask := bit (miMaskBit m.mask v 5) ++ bit (miMaskBit m.mask v 4) ++ bit (miMaskBit m.mask v 3) ++
        bit (miMaskBit m.mask v 2) ++ bit (miMaskBit m.mask v 1) ++ bit (miMaskBit m.mask v 0) }

/-- `MIWrite(off, v)` (R304), off one of 0, 4, 8, 12. -/
def miWrite (m : Mi) (off : Nat) (v : Word) : Except Refusal Mi :=
  match off with
  | 0 => miWriteMode m v
  | 4 => .ok m
  | 8 => .ok m
  | _ => miWriteMask m v

/-! ## VI registers (R305 to R308) -/

/-- `VICurrent()` (R307). -/
def viCurrent (p : Params) (v : Vi) : Word :=
  (BitVec.ofNat 10 (v.cycles.toNat * p.viLines / p.budget)).setWidth 32

/-- `VIRead(off)` (R306). -/
def viRead (p : Params) (v : Vi) (off : Nat) : Word :=
  if off = 0x10 then viCurrent p v else v.reg[off / 4]?.getD 0

/-- `VIWrite(off, v)` (R308): a write of V_CURRENT acknowledges the VI interrupt; any other register is stored. -/
def viWrite (vi : Vi) (mi : Mi) (off : Nat) (v : Word) : Vi × Mi :=
  if off = 0x10 then (vi, mi.setVi false) else ({ vi with reg := vi.reg.setIfInBounds (off / 4) v }, mi)

/-! ## Ticks (R309 to R313) -/

/-- `VITick(elapsed)` (R309): the sum in 64 bits, and the loop in closed form (log entry 17). -/
def viTick (p : Params) (elapsed : Nat) (vi : Vi) (mi : Mi) : Vi × Mi :=
  let total := (vi.cycles.toNat + elapsed) % 2 ^ 64
  ({ vi with cycles := BitVec.ofNat 64 (total % p.budget) }, if total ≥ p.budget then mi.setVi true else mi)

/-- How far Count advances in a tick (R310). -/
def timerAdvance (p : Params) (elapsed : Nat) (t : Timer) : Nat := (t.countFrac + elapsed) / p.countDiv

/-- Whether Count passes through Compare when it advances by `n` from `old` (R310). -/
def timerPasses (old compare : Word) (n : Nat) : Bool :=
  decide (n ≥ 2 ^ 32) || (decide (n ≥ 1) && decide ((compare - old - 1).toNat < n))

/-- `TimerTick(elapsed)` (R310). -/
def timerTick (p : Params) (elapsed : Nat) (c : Cp0) (t : Timer) : Cp0 × Timer :=
  let n := timerAdvance p elapsed t
  ({ c with count := BitVec.ofNat 32 (c.count.toNat + n) },
   { pending := t.pending || timerPasses c.count c.compare n
     countFrac := (t.countFrac + elapsed) % p.countDiv })

/-! ## Resets (70_reset_and_hazards.md R319) -/

/-- `MIReset`. -/
def miReset (s : State) : State := { s with mi := Mi.reset }

/-- `VIReset`. -/
def viReset (s : State) : State := { s with vi := Vi.reset }

/-- `TimerReset`. -/
def timerReset (s : State) : State := { s with timer := Timer.reset }

/-- `ResetDevices()` (R319). -/
def resetDevices (s : State) : State := { timerReset (viReset (miReset s)) with extActive := false }

end Sys2Proof.Machine
end

