-- ==== Sys2Proof/Machine/Bus.lean ====
section
/-! DEFINITION. The bus: the physical regions of 20_memory.md R85 and R86, and the accesses PhysRead and PhysWrite of R78, R87, R88. -/

namespace Sys2Proof.Machine

/-! ## Regions -/

/-- The kinds of region (R86). -/
inductive RegionKind where
  | ram | spMem | external | mi | vi | cartRom | pifRom | unmapped | refuse
deriving DecidableEq, Repr

/-- A region: first and last physical address, name and kind (R85). -/
structure Region where
  first : Nat
  last : Nat
  name : String
  kind : RegionKind
deriving DecidableEq, Repr

/-- BusRegionConflict (R85): a configuration-time error of `mapRegion`. -/
inductive BusRegionConflict where
  | overlap
deriving DecidableEq, Repr

/-- Whether two regions share an address. -/
def Region.overlaps (a b : Region) : Bool := decide (a.first ≤ b.last) && decide (b.first ≤ a.last)

/-- `mapRegion` (R85): install a region unless it overlaps an installed one. -/
def mapRegion (installed : List Region) (r : Region) : Except BusRegionConflict (List Region) :=
  if installed.any r.overlaps then .error .overlap else .ok (installed ++ [r])

/-- The regions of R86, in its order. -/
def regionTable (p : Params) : List Region :=
  [ ⟨0x00000000, p.rdramSize - 1, "RDRAM", .ram⟩,
    ⟨p.rdramSize, 0x03EFFFFF, "none", .unmapped⟩,
    ⟨0x03F00000, 0x03FFFFFF, "RDRAM registers", .external⟩,
    ⟨0x04000000, 0x04000FFF, "SP DMEM", .spMem⟩,
    ⟨0x04001000, 0x04001FFF, "SP IMEM", .spMem⟩,
    ⟨0x04002000, 0x0403FFFF, "SP memory mirrors", .refuse⟩,
    ⟨0x04040000, 0x040FFFFF, "SP registers", .external⟩,
    ⟨0x04100000, 0x041FFFFF, "DP command registers", .external⟩,
    ⟨0x04200000, 0x042FFFFF, "DP span registers", .external⟩,
    ⟨0x04300000, 0x0430000F, "MI registers", .mi⟩,
    ⟨0x04300010, 0x043FFFFF, "rest of MI window", .refuse⟩,
    ⟨0x04400000, 0x04400037, "VI registers", .vi⟩,
    ⟨0x04400038, 0x044FFFFF, "rest of VI window", .refuse⟩,
    ⟨0x04500000, 0x045FFFFF, "AI registers", .external⟩,
    ⟨0x04600000, 0x046FFFFF, "PI registers", .external⟩,
    ⟨0x04700000, 0x047FFFFF, "RI registers", .external⟩,
    ⟨0x04800000, 0x048FFFFF, "SI registers", .external⟩,
    ⟨0x04900000, 0x04FFFFFF, "none", .unmapped⟩,
    ⟨0x05000000, 0x05FFFFFF, "cartridge domain 2 address 1", .external⟩,
    ⟨0x06000000, 0x07FFFFFF, "cartridge domain 1 address 1", .external⟩,
    ⟨0x08000000, 0x0FFFFFFF, "cartridge domain 2 address 2", .external⟩,
    ⟨0x10000000, 0x1FBFFFFF, "cartridge ROM", .cartRom⟩,
    ⟨0x1FC00000, 0x1FC007BF, "PIF boot ROM", .pifRom⟩,
    ⟨0x1FC007C0, 0x1FC007FF, "PIF RAM", .external⟩,
    ⟨0x1FC00800, 0x1FCFFFFF, "none", .unmapped⟩,
    ⟨0x1FD00000, 0x7FFFFFFF, "cartridge domain 1 address 3", .external⟩,
    ⟨0x80000000, 0xFFFFFFFF, "none", .unmapped⟩ ]

/-- The region that claims a physical address (R85, R86). -/
def regionOf (p : Params) (pa : Word) : Option Region :=
  (regionTable p).find? (fun r => decide (r.first ≤ pa.toNat) && decide (pa.toNat ≤ r.last))

/-- The kind of the region that claims a physical address: every address has one (R86) when the parameters are legal, so the last
case is then never reached. -/
def regionKind (p : Params) (pa : Word) : RegionKind :=
  match regionOf p pa with
  | some r => r.kind
  | none => .unmapped

/-- Physical base of the cartridge ROM window (R86 region 22). -/
def cartBase : Nat := 0x10000000

/-- Physical base of the PIF boot ROM (R86 region 23). -/
def pifBase : Nat := 0x1FC00000

/-- Bytes of P_PIF_ROM (00_scope.md R11). -/
def pifSize : Nat := 0x7C0

/-! ## Accesses -/

/-- `P_EXT.read(pa, n)` (R90): the next draw of the external agents' answers. -/
def extRead (s : State) (pa : Word) (w : Width) : DWord × State :=
  (w.trunc (Config.extRead s.draws s.inputMask pa w.bytes), { s with draws := s.draws + 1 })

/-- `PhysRead(pa, n)` (R87), pa a multiple of n: the n-byte value, zero-extended to 64 bits. -/
def physRead (s : State) (pa : Word) (w : Width) : Except Refusal (DWord × State) :=
  match regionKind s.params pa with
  | .ram => .ok (s.mem.readBE pa.toNat w.bytes, s)
  | .spMem => if w = .word then .ok (s.mem.readBE pa.toNat 4, s) else .error .deviceWidth
  | .cartRom =>
    if w = .word then
      .ok (if pa.toNat - cartBase + 4 ≤ s.romLen then s.mem.readBE pa.toNat 4 else w.trunc (s.params.openBusAt pa 4), s)
    else .error .romWidth
  | .pifRom =>
    if w = .word then
      .ok (if s.pifPresent then s.mem.readBE pa.toNat 4 else w.trunc (s.params.openBusAt pa 4), s)
    else .error .romWidth
  | .mi => if w = .word then .ok (zext32 (miRead s.params s.mi (pa - 0x04300000).toNat), s) else .error .deviceWidth
  | .vi => if w = .word then .ok (zext32 (viRead s.params s.vi (pa - 0x04400000).toNat), s) else .error .deviceWidth
  | .external => .ok (extRead s pa w)
  | .unmapped => .ok (w.trunc (s.params.openBusAt pa w.bytes), s)
  | .refuse => .error .unmodelledRegion

/-- `PhysWriteMasked(pa, n, v, m)` (R78), pa a multiple of n: bit `j` of `mask` selects byte offset `j`. With every byte selected it is
`PhysWrite` (R88). -/
def physWriteMasked (s : State) (pa : Word) (w : Width) (v : DWord) (mask : BitVec 8) : Except Refusal State :=
  match regionKind s.params pa with
  | .ram => .ok { s with mem := s.mem.writeBE pa.toNat mask w.bytes v }
  | .spMem => if w = .word then .ok { s with mem := s.mem.writeBE pa.toNat mask 4 v } else .error .deviceWidth
  | .cartRom => .error .romWrite
  | .pifRom => .error .romWrite
  | .mi =>
    if selectsAll mask w.bytes then
      if w = .word then
        match miWrite s.mi (pa - 0x04300000).toNat (low32 v) with
        | .ok m => .ok { s with mi := m }
        | .error r => .error r
      else .error .deviceWidth
    else .error .partialDeviceWrite
  | .vi =>
    if selectsAll mask w.bytes then
      if w = .word then
        let written := viWrite s.vi s.mi (pa - 0x04400000).toNat (low32 v)
        .ok { s with vi := written.1, mi := written.2 }
      else .error .deviceWidth
    else .error .partialDeviceWrite
  | .external => .ok { s with extActive := true }
  | .unmapped => .ok s
  | .refuse => .error .unmodelledRegion

/-- `PhysWrite(pa, n, v)` (R88). -/
def physWrite (s : State) (pa : Word) (w : Width) (v : DWord) : Except Refusal State :=
  physWriteMasked s pa w v fullMask

end Sys2Proof.Machine
end

