-- ==== Sys2Proof/Machine/Flags.lean ====
section
/-! DEFINITION. The conditions an instruction computes. The machine has no flag register (10_state.md R35): overflow is the test of
40_alu.md R124, comparisons are the tests of R138 to R141, 42_control.md and 44_system.md R241. -/

namespace Sys2Proof.Machine

/-- Whether an exact integer is a signed 32-bit value (R124). -/
def fits32 (t : Int) : Bool := decide (-(2 ^ 31 : Int) ≤ t) && decide (t ≤ 2 ^ 31 - 1)

/-- Whether an exact integer is a signed 64-bit value (R124). -/
def fits64 (t : Int) : Bool := decide (-(2 ^ 63 : Int) ≤ t) && decide (t ≤ 2 ^ 63 - 1)

/-- s(a) < s(b). -/
def ltS (a b : DWord) : Bool := decide (a.toInt < b.toInt)

/-- s(a) >= s(b). -/
def geS (a b : DWord) : Bool := decide (a.toInt ≥ b.toInt)

/-- u(a) < u(b). -/
def ltU (a b : DWord) : Bool := decide (a.toNat < b.toNat)

/-- u(a) >= u(b). -/
def geU (a b : DWord) : Bool := decide (a.toNat ≥ b.toNat)

/-- s(a) < 0. -/
def ltz (a : DWord) : Bool := decide (a.toInt < 0)

/-- s(a) >= 0. -/
def gez (a : DWord) : Bool := decide (a.toInt ≥ 0)

/-- s(a) <= 0. -/
def lez (a : DWord) : Bool := decide (a.toInt ≤ 0)

/-- s(a) > 0. -/
def gtz (a : DWord) : Bool := decide (a.toInt > 0)

/-- The 64-bit value 1 or 0 of a set-on-less-than (R138). -/
def boolValue (b : Bool) : DWord := if b then 1 else 0

end Sys2Proof.Machine
end

