-- ==== Sys2Proof/Machine/Ops.lean ====
section
/-! DEFINITION. The operations every meaning is built from: register access, draws, the fields of Status, the modes, taking an exception
and returning from one, the outcome of an instruction, and the HI/LO hazard. -/

namespace Sys2Proof.Machine

/-! ## General registers (10_state.md R14, R24, R25) -/

/-- `x[i]`: 0 for i = 0. -/
def readReg (s : State) (i : RegIdx) : DWord :=
  if i = 0 then 0 else s.regs[i.toNat]'(by have := i.isLt; omega)

/-- `x[i] <- v`: no effect for i = 0. -/
def writeReg (s : State) (i : RegIdx) (v : DWord) : State :=
  if i = 0 then s else { s with regs := s.regs.set i.toNat v (by have := i.isLt; omega) }

/-! ## Draws (00_scope.md R17; log entries 3, 19) -/

/-- `draw_64`: a fresh free value. -/
def draw (s : State) : DWord × State := (Config.draw s.draws, { s with draws := s.draws + 1 })

/-- A number drawn in [lo, 31], for lo at most 31. -/
def drawFrom (lo : Nat) (s : State) : Nat × State := (lo + (draw s).1.toNat % (32 - lo), (draw s).2)

/-! ## Status and modes (10_state.md R49, 60_exceptions.md R294 to R297) -/

/-- Bit `n` of Status. -/
def statusBit (s : State) (n : Nat) : Bool := s.cp0.status.getLsbD n

/-- Status.IE. -/
def statusIE (s : State) : Bool := statusBit s 0

/-- Status.EXL. -/
def statusEXL (s : State) : Bool := statusBit s 1

/-- Status.ERL. -/
def statusERL (s : State) : Bool := statusBit s 2

/-- Status.KSU. -/
def statusKSU (s : State) : BitVec 2 := s.cp0.status.extractLsb' 3 2

/-- Status.UX. -/
def statusUX (s : State) : Bool := statusBit s 5

/-- Status.SX. -/
def statusSX (s : State) : Bool := statusBit s 6

/-- Status.KX. -/
def statusKX (s : State) : Bool := statusBit s 7

/-- Status.IM. -/
def statusIM (s : State) : BitVec 8 := s.cp0.status.extractLsb' 8 8

/-- Status.BEV. -/
def statusBEV (s : State) : Bool := statusBit s 22

/-- Status.RE. -/
def statusRE (s : State) : Bool := statusBit s 25

/-- Status.CUz, for coprocessor z in 0..3. -/
def statusCU (s : State) (z : Nat) : Bool := statusBit s (28 + z)

/-- Status with bit `n` set to `b`. -/
def setStatusBit (s : State) (n : Nat) (b : Bool) : State :=
  { s with cp0 := { s.cp0 with status := putField n (bit b) s.cp0.status } }

/-- `CurrentMode()` (R294). KSU = 11 cannot be stored (R256; log entry 9). -/
def currentMode (s : State) : Mode :=
  if statusEXL s || statusERL s then .kernel
  else if statusKSU s = 0 then .kernel
  else if statusKSU s = 1 then .supervisor
  else .user

/-- `Addr64(m)` (20_memory.md R94). -/
def addr64 (s : State) : Mode → Bool
  | .kernel => statusKX s
  | .supervisor => statusSX s
  | .user => statusUX s

/-- `CP0Usable()` (R296). -/
def cp0Usable (s : State) : Bool := currentMode s = .kernel || statusCU s 0

/-- `Ops64Enabled()` (R297). -/
def ops64Enabled (s : State) : Bool :=
  match currentMode s with
  | .kernel => true
  | .supervisor => statusSX s
  | .user => statusUX s

/-! ## Exceptions (60_exceptions.md R282 to R290) -/

/-- The name of an exception (R282). -/
def Exc.name : Exc → ExcName
  | .int => .int
  | .sys => .sys
  | .bp => .bp
  | .ri => .ri
  | .cpU _ => .cpU
  | .ov => .ov
  | .tr => .tr
  | .watch => .watch
  | .addressError store _ => if store then .adES else .adEL
  | .tlbRefill store _ => if store then .tlbS else .tlbL
  | .tlbInvalid store _ => if store then .tlbS else .tlbL
  | .tlbModified _ => .mod

/-- The ExcCode of an exception name (R282). -/
def ExcName.code : ExcName → BitVec 5
  | .int => 0
  | .mod => 1
  | .tlbL => 2
  | .tlbS => 3
  | .adEL => 4
  | .adES => 5
  | .sys => 8
  | .bp => 9
  | .ri => 10
  | .cpU => 11
  | .ov => 12
  | .tr => 13
  | .watch => 23

/-- Whether the exception is a TLB Refill (R286). -/
def Exc.isRefill : Exc → Bool
  | .tlbRefill _ _ => true
  | .int | .sys | .bp | .ri | .cpU _ | .ov | .tr | .watch | .addressError _ _ | .tlbInvalid _ _ | .tlbModified _ => false

/-- The address BadVAddr receives (R289). -/
def Exc.badVAddr : Exc → Option DWord
  | .addressError _ va | .tlbRefill _ va | .tlbInvalid _ va | .tlbModified va => some va
  | .int | .sys | .bp | .ri | .cpU _ | .ov | .tr | .watch => none

/-- The address the TLB registers receive (R290). -/
def Exc.tlbAddr : Exc → Option DWord
  | .tlbRefill _ va | .tlbInvalid _ va | .tlbModified va => some va
  | .addressError _ _ | .int | .sys | .bp | .ri | .cpU _ | .ov | .tr | .watch => none

/-- `ExceptionVector(refill, exl, bev, a64)` (R288). -/
def exceptionVector (refill exl bev a64 : Bool) : DWord :=
  (if bev then 0xFFFFFFFFBFC00200 else 0xFFFFFFFF80000000) +
    (if refill && !exl then (if a64 then 0x080 else 0x000) else 0x180)

/-- Context, XContext and EntryHi after a TLB exception for `va` (R290): all three, whatever Addr64 is, as R290 has it and as the
vectors of 95_test_vectors.md show it with Addr64 = 0 (section 7 row 10: Status = 0, XContext = 0x4000). -/
def recordTlbAddr (va : DWord) (c : Cp0) : Cp0 :=
  { c with
    context := putField 4 (va.extractLsb' 13 19) c.context
    xContext := putField 31 (va.extractLsb' 62 2) (putField 4 (va.extractLsb' 13 27) c.xContext)
    entryHi := putField 62 (va.extractLsb' 62 2) (putField 13 (va.extractLsb' 13 27) c.entryHi) }

/-- BadVAddr and the TLB registers after an exception (R289, R290). -/
def recordAddr (e : Exc) (c : Cp0) : Cp0 :=
  let c := match e.badVAddr with
    | some va => { c with badVAddr := va }
    | none => c
  match e.tlbAddr with
  | some va => recordTlbAddr va c
  | none => c

/-- EPC and Cause.BD at an entry with Status.EXL = 0 (R286): the branch when the instruction stands in a delay slot. -/
def saveRestart (s : State) : Cp0 :=
  if s.inDelaySlot then { s.cp0 with epc := s.pc - 4, cause := putField 31 (1 : BitVec 1) s.cp0.cause }
  else { s.cp0 with epc := s.pc, cause := putField 31 (0 : BitVec 1) s.cp0.cause }

/-- The value Cause.CE receives (R286): the coprocessor number, or a draw for any exception but Coprocessor Unusable. -/
def causeCE (e : Exc) (s : State) : BitVec 2 × State :=
  match e with
  | .cpU ce => (ce, s)
  | .int | .sys | .bp | .ri | .ov | .tr | .watch | .addressError _ _ | .tlbRefill _ _ | .tlbInvalid _ _ | .tlbModified _ =>
    ((draw s).1.setWidth 2, (draw s).2)

/-- `ExceptionEntry(E, info, ds)` (R286), in a state whose pc and in_delay_slot are those of the instruction. -/
def exceptionEntry (e : Exc) (s : State) : State :=
  let vec := exceptionVector e.isRefill (statusEXL s) (statusBEV s) (addr64 s (currentMode s))
  let c := if statusEXL s then s.cp0 else saveRestart s
  let c := { c with cause := putField 28 (causeCE e s).1 (putField 2 e.name.code c.cause) }
  let c := recordAddr e c
  let c := { c with status := putField 1 (1 : BitVec 1) c.status }
  { (causeCE e s).2 with cp0 := c, pc := vec, nextPc := vec + 4, inDelaySlot := false }

/-- The entry of a synchronous exception, which the step reports (10_state.md R31, R32). -/
def takeException (e : Exc) (s : State) : State := { exceptionEntry e s with stepFault := some e.name }

/-- The address ERET returns to (44_system.md R266): ErrorEPC when ERL = 1, else EPC. -/
def returnAddress (s : State) : DWord := if statusERL s then s.cp0.errorEpc else s.cp0.epc

/-- The return from an exception (R266): ERL or EXL is cleared, LLbit is cleared, and pc is the saved address. -/
def exceptionReturn (s : State) : State :=
  { setStatusBit s (if statusERL s then 2 else 1) false with
    llbit := false, pc := returnAddress s, nextPc := returnAddress s + 4, inDelaySlot := false }

/-! ## Outcomes (10_state.md R31) -/

/-- What an instruction's rule yields when it neither raises nor refuses (R31). -/
inductive Flow where
  | next
  | taken (target : DWord)
  | notTaken
  | annul
  | redirected
deriving DecidableEq, Repr

/-- How an instruction's rule is abandoned: `raise Exc(info)` in the state reached, or `refuse Reason` (00_scope.md R16, R18). -/
inductive Stop where
  | raise (e : Exc) (s : State)
  | refuse (r : Refusal)
deriving DecidableEq, Repr

/-- The result of an operation that may raise or refuse. -/
abbrev Res (α : Type) := Except Stop α

/-- The update of pc, next_pc and in_delay_slot at the end of a step (R31). -/
def advance : Flow → State → State
  | .next, s => { s with pc := s.nextPc, nextPc := s.nextPc + 4, inDelaySlot := false }
  | .taken t, s => { s with pc := s.nextPc, nextPc := t, inDelaySlot := true }
  | .notTaken, s => { s with pc := s.nextPc, nextPc := s.nextPc + 4, inDelaySlot := true }
  | .annul, s => { s with pc := s.nextPc + 4, nextPc := s.nextPc + 8, inDelaySlot := false }
  | .redirected, s => s

/-- The outcome of an instruction: its effect and the update of pc, or the exception it takes, or the refusal (R31). -/
def complete : Res (Flow × State) → Host.Outcome State Fault Refusal
  | .ok (f, s) => .next (advance f s)
  | .error (.raise e s) => .next (takeException e s)
  | .error (.refuse r) => .refused r

/-- An instruction that ends with outcome Next, after an operation that may raise or refuse. -/
def completeNext (r : Res State) : Host.Outcome State Fault Refusal := complete (r.map fun s => (.next, s))

/-- An operation of the bus or a device as part of an instruction. -/
def orRefuse {α : Type} : Except Refusal α → Res α
  | .ok a => .ok a
  | .error r => .error (.refuse r)

/-! ## Checks -/

/-- `Require64()` (40_alu.md R125). -/
def require64 (s : State) : Res Unit := if ops64Enabled s then .ok () else .error (.raise .ri s)

/-- `RequireCP0()` (44_system.md R238). -/
def requireCp0 (s : State) : Res Unit := if cp0Usable s then .ok () else .error (.raise (.cpU 0) s)

/-! ## HI and LO (41_muldiv.md R167, 70_reset_and_hazards.md R334) -/

/-- `HazardAge()`. -/
def hazardAge (s : State) : State := { s with hiReadAge := s.hiReadAge - 1, loReadAge := s.loReadAge - 1 }

/-- `WriteHI(v)`. -/
def writeHi (s : State) (v : DWord) : Res State :=
  if s.hiReadAge > 0 then .error (.refuse .hiLoHazard) else .ok { s with hi := v }

/-- `WriteLO(v)`. -/
def writeLo (s : State) (v : DWord) : Res State :=
  if s.loReadAge > 0 then .error (.refuse .hiLoHazard) else .ok { s with lo := v }

/-- The writes of both HI and LO: both are checked before either is written (R167). -/
def writeHiLo (s : State) (hi lo : DWord) : Res State :=
  if s.hiReadAge > 0 || s.loReadAge > 0 then .error (.refuse .hiLoHazard) else .ok { s with hi := hi, lo := lo }

end Sys2Proof.Machine
end

