-- ==== Sys2Proof/Machine/Access.lean ====
section
/-! DEFINITION. Access to memory: the cache checker (20_memory.md R101), the segments and the TLB (R91 to R95), the watch check (60_exceptions.md
R291) and the access primitives MemRead, MemWrite and MemWriteMasked (R76 to R78). -/

namespace Sys2Proof.Machine

/-! ## The cache checker (R101) -/

/-- The data line of a physical address, pa[31:4]. -/
def dataLine (pa : Word) : BitVec 28 := pa.extractLsb' 4 28

/-- The instruction line of a physical address, pa[31:5]. -/
def instrLine (pa : Word) : BitVec 27 := pa.extractLsb' 5 27

/-- The data cache index pa[12:4]. -/
def dataIndex (pa : Word) : BitVec 9 := pa.extractLsb' 4 9

/-- The instruction cache index pa[13:5]. -/
def instrIndex (pa : Word) : BitVec 9 := pa.extractLsb' 5 9

/-- The two data lines of an instruction line. -/
def dataLinesOf (i : BitVec 27) : List (BitVec 28) := [i ++ (0 : BitVec 1), i ++ (1 : BitVec 1)]

/-- A set with an element added. -/
def setAdd {n : Nat} (x : BitVec n) (l : List (BitVec n)) : List (BitVec n) := if x ∈ l then l else x :: l

/-- A set with an element removed. -/
def setRemove {n : Nat} (x : BitVec n) (l : List (BitVec n)) : List (BitVec n) := l.filter (fun y => y != x)

/-- The lines of a set that are not at a cache index: the index is the line number's low 9 bits. -/
def withoutIndex {n : Nat} (idx : BitVec 9) (l : List (BitVec n)) : List (BitVec n) :=
  l.filter (fun y => y.setWidth 9 != idx)

/-- The sets with every data line at an index other than `keep` evicted. -/
def evictOtherData (keep : BitVec 28) (c : CacheSets) : CacheSets :=
  let stays := fun y : BitVec 28 => y == keep || y.setWidth 9 != keep.setWidth 9
  { c with dcPresent := c.dcPresent.filter stays, dcDirty := c.dcDirty.filter stays, dcStale := c.dcStale.filter stays }

/-- The sets with every instruction line at an index other than `keep` evicted. -/
def evictOtherInstr (keep : BitVec 27) (c : CacheSets) : CacheSets :=
  let stays := fun y : BitVec 27 => y == keep || y.setWidth 9 != keep.setWidth 9
  { c with icPresent := c.icPresent.filter stays, icStale := c.icStale.filter stays }

/-- The checker for a load or store. -/
def cacheCheckData (pa : Word) (store cached : Bool) (c : CacheSets) : Except Refusal CacheSets :=
  let d := dataLine pa
  let markInstr := fun c : CacheSets =>
    if store && decide (instrLine pa ∈ c.icPresent) then { c with icStale := setAdd (instrLine pa) c.icStale } else c
  if cached then
    if !decide (dataIndex pa ∈ c.dcInit) || decide (d ∈ c.dcStale) then .error .cacheState
    else
      let c := evictOtherData d c
      let c := { c with dcPresent := setAdd d c.dcPresent }
      .ok (markInstr (if store then { c with dcDirty := setAdd d c.dcDirty } else c))
  else if d ∈ c.dcDirty then .error .cacheState
  else .ok (markInstr (if store && decide (d ∈ c.dcPresent) then { c with dcStale := setAdd d c.dcStale } else c))

/-- The checker for a fetch. -/
def cacheCheckFetch (pa : Word) (cached : Bool) (c : CacheSets) : Except Refusal CacheSets :=
  let i := instrLine pa
  if (dataLinesOf i).any (fun d => decide (d ∈ c.dcDirty)) then .error .cacheState
  else if cached then
    if !decide (instrIndex pa ∈ c.icInit) || decide (i ∈ c.icStale) then .error .cacheState
    else
      let c := evictOtherInstr i c
      .ok { c with icPresent := setAdd i c.icPresent }
  else .ok c

/-- `CacheCheck(pa, n, kind, cached)` (R101): nothing when P_CACHE_CHECK is Off. -/
def cacheCheck (pa : Word) (kind : AccessKind) (cached : Bool) (s : State) : Except Refusal State :=
  if s.params.cacheCheck then
    let r := match kind with
      | .fetch => cacheCheckFetch pa cached s.cache
      | .load => cacheCheckData pa false cached s.cache
      | .store => cacheCheckData pa true cached s.cache
    match r with
    | .ok c => .ok { s with cache := c }
    | .error e => .error e
  else .ok s

/-! ## The TLB (R95) -/

/-- Whether an entry matches a virtual address in an address space (R95, 44_system.md R265). -/
def TlbEntry.matchesAddr (e : TlbEntry) (va : DWord) (asid : BitVec 8) : Bool :=
  decide (e.r = va.extractLsb' 62 2) &&
  decide (e.vpn2 &&& ~~~(e.mask.setWidth 27) = va.extractLsb' 13 27 &&& ~~~(e.mask.setWidth 27)) &&
  (e.g || decide (e.asid = asid))

/-- EntryHi.ASID. -/
def currentAsid (s : State) : BitVec 8 := s.cp0.entryHi.extractLsb' 0 8

/-- The numbers of the entries that match a virtual address. -/
def tlbHits (s : State) (va : DWord) : List (Fin 32) :=
  (List.finRange 32).filter (fun i => (s.tlb[i]).matchesAddr va (currentAsid s))

/-- log2 of the page size of an entry: 12 + log2(MASK + 1) (log entry 18). -/
def TlbEntry.pageShift (e : TlbEntry) : Nat := 12 + Nat.log2 (e.mask.toNat + 1)

/-- The page of an entry that holds a virtual address: bit `pageShift` of it chooses the odd page. -/
def TlbEntry.page (e : TlbEntry) (va : DWord) : TlbPage := if va.getLsbD e.pageShift then e.odd else e.even

/-- The physical address of a page frame and an offset below bit `sh`. -/
def frameAddr (pfn : BitVec 20) (sh : Nat) (va : DWord) : Word :=
  (pfn ++ (0 : BitVec 12)) ||| BitVec.ofNat 32 (va.toNat % 2 ^ sh)

/-- Translation through one matching entry (R95). -/
def translateEntry (e : TlbEntry) (va : DWord) (kind : AccessKind) (s : State) : Res (Word × Bool) :=
  let p := e.page va
  let sh := e.pageShift
  if !p.v then .error (.raise (.tlbInvalid (kind = .store) va) s)
  else if kind = .store && !p.d then .error (.raise (.tlbModified va) s)
  else if p.pfn.toNat % 2 ^ (sh - 12) ≠ 0 then .error (.refuse .pfnNotPageAligned)
  else .ok (frameAddr p.pfn sh va, p.c != 2)

/-- `TLBTranslate(va, kind)` (R95). -/
def tlbTranslate (va : DWord) (kind : AccessKind) (s : State) : Res (Word × Bool) :=
  match tlbHits s va with
  | [] => .error (.raise (.tlbRefill (kind = .store) va) s)
  | [i] => translateEntry s.tlb[i] va kind s
  | _ => .error (.refuse .tlbMultipleMatch)

/-! ## Segments and translation (R91, R92) -/

/-- The 32-bit segments (R92). -/
inductive Segment where
  | useg | kseg0 | kseg1 | ksseg | kseg3
deriving DecidableEq, Repr

/-- The segment of va[31:0] (R92), by its top three bits. -/
def segmentOf (a : Word) : Segment :=
  if a.toNat < 0x80000000 then .useg
  else if a.toNat < 0xA0000000 then .kseg0
  else if a.toNat < 0xC0000000 then .kseg1
  else if a.toNat < 0xE0000000 then .ksseg
  else .kseg3

/-- Whether a mode may use a segment (R92, 60_exceptions.md R295). -/
def segmentAllowed : Segment → Mode → Bool
  | _, .kernel => true
  | .useg, _ => true
  | .ksseg, .supervisor => true
  | .ksseg, .user => false
  | .kseg0, .supervisor | .kseg0, .user | .kseg1, .supervisor | .kseg1, .user | .kseg3, .supervisor | .kseg3, .user => false

/-- Whether kseg0 is cached: Config.K0 is not 2 (R91). -/
def kseg0Cached (s : State) : Bool := s.cp0.config.extractLsb' 0 3 != 2

/-- `Translate(va, kind)` (R91): the physical address and whether the access is cached. -/
def translate (va : DWord) (kind : AccessKind) (s : State) : Res (Word × Bool) :=
  let a := low32 va
  if !isSext32 va then .error (.refuse .nonSext32Address)
  else if currentMode s = .user && statusRE s then .error (.refuse .reverseEndian)
  else if !segmentAllowed (segmentOf a) (currentMode s) then .error (.raise (.addressError (kind = .store) va) s)
  else match segmentOf a with
    | .kseg0 => .ok (a - 0x80000000, kseg0Cached s)
    | .kseg1 => .ok (a - 0xA0000000, false)
    | .useg => if statusERL s then .ok (a, false) else tlbTranslate va kind s
    | .ksseg => tlbTranslate va kind s
    | .kseg3 => tlbTranslate va kind s

/-! ## Watch (60_exceptions.md R291) -/

/-- Whether the watch registers match an access. -/
def watchMatches (pa : Word) (store : Bool) (s : State) : Bool :=
  s.cp0.watchLo.getLsbD (if store then 0 else 1) &&
  decide (pa.extractLsb' 3 29 = s.cp0.watchLo.extractLsb' 3 29) &&
  decide (s.cp0.watchHi.extractLsb' 0 4 = 0)

/-- `WatchCheck(pa, kind)`. -/
def watchCheck (pa : Word) (store : Bool) (s : State) : Res Unit :=
  if watchMatches pa store s then
    if statusEXL s || statusERL s then .error (.refuse .watchDeferred) else .error (.raise .watch s)
  else .ok ()

/-! ## Access primitives -/

/-- `ea <- x[base] + simm` (43_loadstore.md R211). -/
def effAddr (s : State) (base : RegIdx) (offset : BitVec 16) : DWord := readReg s base + simm offset

/-- `MemRead(va, n, Load)` (R76): the value, the physical address it translated to, and the state after the access. -/
def memRead (s : State) (va : DWord) (w : Width) : Res (DWord × Word × State) := do
  let (pa, cached) ← translate va .load s
  watchCheck pa false s
  let s ← orRefuse (cacheCheck pa .load cached s)
  let (v, s) ← orRefuse (physRead s (alignDown pa w) w)
  return (v, pa, s)

/-- `MemWriteMasked(va, n, v, m)` (R78). -/
def memWriteMasked (s : State) (va : DWord) (w : Width) (v : DWord) (mask : BitVec 8) : Res State := do
  let (pa, cached) ← translate va .store s
  watchCheck pa true s
  let s ← orRefuse (cacheCheck pa .store cached s)
  orRefuse (physWriteMasked s (alignDown pa w) w v mask)

/-- `MemWrite(va, n, v)` (R77). -/
def memWrite (s : State) (va : DWord) (w : Width) (v : DWord) : Res State := do
  let (pa, cached) ← translate va .store s
  watchCheck pa true s
  let s ← orRefuse (cacheCheck pa .store cached s)
  orRefuse (physWrite s (alignDown pa w) w v)

end Sys2Proof.Machine
end

