-- ==== Sys2Proof/Machine/Results.lean ====
section
/-! DEFINITION. The ways an integer instruction ends (40_alu.md R122 to R125, 41_muldiv.md R167 to R169): a register written, a word
result with its sext32 precondition, a result that traps on overflow, and the pair HI and LO. -/

namespace Sys2Proof.Machine

/-- The outcome type of an instruction. -/
abbrev Out := Host.Outcome State Fault Refusal

/-- An exception raised by an instruction before it changes anything (60_exceptions.md R280). -/
def raiseIn (s : State) (e : Exc) : Out := complete (.error (.raise e s))

/-- A refusal by an instruction. -/
def refuseWith (r : Refusal) : Out := complete (.error (.refuse r))

/-- One register is written, outcome Next. -/
def writeResult (s : State) (d : RegIdx) (v : DWord) : Out := complete (.ok (.next, writeReg s d v))

/-- `x[d] <- sext_64(draw_32)` (R123). -/
def writeDraw32 (s : State) (d : RegIdx) : Out := writeResult (draw s).2 d (sext32 (low32 (draw s).1))

/-- A 32-bit result, written sign-extended when the sources meet their precondition `ok`, else a draw (R123). -/
def writeWord (s : State) (d : RegIdx) (ok : Bool) (v : Word) : Out :=
  if ok then writeResult s d (sext32 v) else writeDraw32 s d

/-- A 32-bit sum or difference that traps on overflow (R123, R124): outside the precondition a `draw_1` decides whether Integer
Overflow is raised. -/
def writeWordTrap (s : State) (d : RegIdx) (ok : Bool) (t : Int) : Out :=
  if ok then
    if fits32 t then writeResult s d (sext32 (BitVec.ofInt 32 t)) else raiseIn s .ov
  else if (draw s).1.getLsbD 0 then raiseIn (draw s).2 .ov
  else writeDraw32 (draw s).2 d

/-- A 64-bit result, after `Require64()` (R125). -/
def writeDouble (s : State) (d : RegIdx) (v : DWord) : Out :=
  complete (do
    require64 s
    return (.next, writeReg s d v))

/-- A 64-bit sum or difference that traps on overflow, after `Require64()` (R124, R125). -/
def writeDoubleTrap (s : State) (d : RegIdx) (t : Int) : Out :=
  complete (do
    require64 s
    if fits64 t then return (.next, writeReg s d (BitVec.ofInt 64 t)) else .error (.raise .ov s))

/-- HI and LO are written (41_muldiv.md R167). -/
def writePair (s : State) (hi lo : DWord) : Out := completeNext (writeHiLo s hi lo)

/-- HI and LO each receive `sext_64(draw_32)` (R168, R169). -/
def drawPair32 (s : State) : Out :=
  let (h, s1) := draw s
  let (l, s2) := draw s1
  writePair s2 (sext32 (low32 h)) (sext32 (low32 l))

/-- HI and LO each receive `draw_64` (R169). -/
def drawPair64 (s : State) : Out :=
  let (h, s1) := draw s
  let (l, s2) := draw s1
  writePair s2 h l

/-- The rest of a 64-bit instruction, after `Require64()`. -/
def after64 (s : State) (o : Out) : Out := if ops64Enabled s then o else raiseIn s .ri

end Sys2Proof.Machine
end

