-- ==== Sys2Proof/Machine/Alu.lean ====
section
/-! DEFINITION. Add, subtract, set on less than and logical instructions (40_alu.md R126 to R149). -/

namespace Sys2Proof.Machine

/-! ## Add and subtract -/

/-- Whether x[rs] and x[rt] are both sext32 values, the precondition W of R123. -/
def words2 (s : State) (rs rt : RegIdx) : Bool := isSext32 (readReg s rs) && isSext32 (readReg s rt)

/-- ADD (R126). -/
def execAdd (rd rs rt : RegIdx) (s : State) : Out :=
  writeWordTrap s rd (words2 s rs rt) ((low32 (readReg s rs)).toInt + (low32 (readReg s rt)).toInt)

/-- ADDU (R127). -/
def execAddu (rd rs rt : RegIdx) (s : State) : Out :=
  writeWord s rd (words2 s rs rt) (low32 (readReg s rs) + low32 (readReg s rt))

/-- SUB (R128). -/
def execSub (rd rs rt : RegIdx) (s : State) : Out :=
  writeWordTrap s rd (words2 s rs rt) ((low32 (readReg s rs)).toInt - (low32 (readReg s rt)).toInt)

/-- SUBU (R129). -/
def execSubu (rd rs rt : RegIdx) (s : State) : Out :=
  writeWord s rd (words2 s rs rt) (low32 (readReg s rs) - low32 (readReg s rt))

/-- ADDI (R130). -/
def execAddi (rt rs : RegIdx) (imm : BitVec 16) (s : State) : Out :=
  writeWordTrap s rt (isSext32 (readReg s rs)) ((low32 (readReg s rs)).toInt + imm.toInt)

/-- ADDIU (R131). -/
def execAddiu (rt rs : RegIdx) (imm : BitVec 16) (s : State) : Out :=
  writeWord s rt (isSext32 (readReg s rs)) (low32 (readReg s rs) + imm.signExtend 32)

/-- DADD (R132). -/
def execDadd (rd rs rt : RegIdx) (s : State) : Out :=
  writeDoubleTrap s rd ((readReg s rs).toInt + (readReg s rt).toInt)

/-- DADDU (R133). -/
def execDaddu (rd rs rt : RegIdx) (s : State) : Out := writeDouble s rd (readReg s rs + readReg s rt)

/-- DSUB (R134). -/
def execDsub (rd rs rt : RegIdx) (s : State) : Out :=
  writeDoubleTrap s rd ((readReg s rs).toInt - (readReg s rt).toInt)

/-- DSUBU (R135). -/
def execDsubu (rd rs rt : RegIdx) (s : State) : Out := writeDouble s rd (readReg s rs - readReg s rt)

/-- DADDI (R136). -/
def execDaddi (rt rs : RegIdx) (imm : BitVec 16) (s : State) : Out :=
  writeDoubleTrap s rt ((readReg s rs).toInt + imm.toInt)

/-- DADDIU (R137). -/
def execDaddiu (rt rs : RegIdx) (imm : BitVec 16) (s : State) : Out := writeDouble s rt (readReg s rs + simm imm)

/-! ## Set on less than -/

/-- SLT (R138). -/
def execSlt (rd rs rt : RegIdx) (s : State) : Out :=
  writeResult s rd (boolValue (ltS (readReg s rs) (readReg s rt)))

/-- SLTU (R139). -/
def execSltu (rd rs rt : RegIdx) (s : State) : Out :=
  writeResult s rd (boolValue (ltU (readReg s rs) (readReg s rt)))

/-- SLTI (R140). -/
def execSlti (rt rs : RegIdx) (imm : BitVec 16) (s : State) : Out :=
  writeResult s rt (boolValue (ltS (readReg s rs) (simm imm)))

/-- SLTIU (R141). -/
def execSltiu (rt rs : RegIdx) (imm : BitVec 16) (s : State) : Out :=
  writeResult s rt (boolValue (ltU (readReg s rs) (simm imm)))

/-! ## Logical -/

/-- AND (R142). -/
def execAnd (rd rs rt : RegIdx) (s : State) : Out := writeResult s rd (readReg s rs &&& readReg s rt)

/-- OR (R143). -/
def execOr (rd rs rt : RegIdx) (s : State) : Out := writeResult s rd (readReg s rs ||| readReg s rt)

/-- XOR (R144). -/
def execXor (rd rs rt : RegIdx) (s : State) : Out := writeResult s rd (readReg s rs ^^^ readReg s rt)

/-- NOR (R145). -/
def execNor (rd rs rt : RegIdx) (s : State) : Out := writeResult s rd (~~~(readReg s rs ||| readReg s rt))

/-- ANDI (R146). -/
def execAndi (rt rs : RegIdx) (imm : BitVec 16) (s : State) : Out := writeResult s rt (readReg s rs &&& zimm imm)

/-- ORI (R147). -/
def execOri (rt rs : RegIdx) (imm : BitVec 16) (s : State) : Out := writeResult s rt (readReg s rs ||| zimm imm)

/-- XORI (R148). -/
def execXori (rt rs : RegIdx) (imm : BitVec 16) (s : State) : Out := writeResult s rt (readReg s rs ^^^ zimm imm)

/-- LUI (R149). -/
def execLui (rt : RegIdx) (imm : BitVec 16) (s : State) : Out := writeResult s rt (upper imm)

end Sys2Proof.Machine
end

