-- ==== Sys2Proof/Machine/CacheOps.lean ====
section
/-! DEFINITION. The CACHE instruction (44_system.md R267). -/

namespace Sys2Proof.Machine

/-! ## Effects on the sets of the checker -/

/-- Index Writeback Invalidate (D). -/
def indexInvalidateData (pa : Word) (c : CacheSets) : CacheSets :=
  { c with
    dcPresent := withoutIndex (dataIndex pa) c.dcPresent
    dcDirty := withoutIndex (dataIndex pa) c.dcDirty
    dcStale := withoutIndex (dataIndex pa) c.dcStale
    dcInit := setAdd (dataIndex pa) c.dcInit }

/-- Index Store Tag (D): refused while a line at the index is dirty. -/
def indexStoreTagData (pa : Word) (c : CacheSets) : Except Refusal CacheSets :=
  if c.dcDirty.any (fun d => d.setWidth 9 == dataIndex pa) then .error .cacheState else .ok (indexInvalidateData pa c)

/-- Create Dirty Exclusive (D). -/
def createDirtyData (pa : Word) (c : CacheSets) : CacheSets :=
  let c := indexInvalidateData pa c
  { c with dcPresent := setAdd (dataLine pa) c.dcPresent, dcDirty := setAdd (dataLine pa) c.dcDirty }

/-- Hit Invalidate (D): refused when the line is dirty. -/
def hitInvalidateData (pa : Word) (c : CacheSets) : Except Refusal CacheSets :=
  if dataLine pa ∈ c.dcDirty then .error .cacheState
  else .ok { c with dcPresent := setRemove (dataLine pa) c.dcPresent, dcStale := setRemove (dataLine pa) c.dcStale }

/-- Hit Writeback Invalidate (D). -/
def hitWritebackInvalidateData (pa : Word) (c : CacheSets) : CacheSets :=
  { c with
    dcPresent := setRemove (dataLine pa) c.dcPresent
    dcDirty := setRemove (dataLine pa) c.dcDirty
    dcStale := setRemove (dataLine pa) c.dcStale }

/-- Hit Writeback (D). -/
def hitWritebackData (pa : Word) (c : CacheSets) : CacheSets := { c with dcDirty := setRemove (dataLine pa) c.dcDirty }

/-- Index Invalidate (I) and Index Store Tag (I). -/
def indexInvalidateInstr (pa : Word) (c : CacheSets) : CacheSets :=
  { c with
    icPresent := withoutIndex (instrIndex pa) c.icPresent
    icStale := withoutIndex (instrIndex pa) c.icStale
    icInit := setAdd (instrIndex pa) c.icInit }

/-- Hit Invalidate (I). -/
def hitInvalidateInstr (pa : Word) (c : CacheSets) : CacheSets :=
  { c with icPresent := setRemove (instrLine pa) c.icPresent, icStale := setRemove (instrLine pa) c.icStale }

/-- Fill (I): refused while a data line of the instruction line is dirty. -/
def fillInstr (pa : Word) (c : CacheSets) : Except Refusal CacheSets :=
  if (dataLinesOf (instrLine pa)).any (fun d => decide (d ∈ c.dcDirty)) then .error .cacheState
  else
    let c := indexInvalidateInstr pa c
    .ok { c with icPresent := setAdd (instrLine pa) c.icPresent }

/-- The additional effect of an operation on the sets, with P_CACHE_CHECK = On. -/
def withSets (s : State) (f : CacheSets → Except Refusal CacheSets) : Res State :=
  if s.params.cacheCheck then orRefuse ((f s.cache).map fun c => { s with cache := c }) else .ok s

/-! ## Effects whatever P_CACHE_CHECK -/

/-- Index Load Tag: TagLo receives a draw in its writable bits. -/
def loadTag (s : State) : State :=
  { (draw s).2 with cp0 := { s.cp0 with tagLo := low32 (draw s).1 &&& 0x0FFFFFC0 } }

/-- TagLo.PState. -/
def tagPState (s : State) : BitVec 2 := s.cp0.tagLo.extractLsb' 6 2

/-- Index Store Tag: refused with TagLo.PState not 0. -/
def storeTag (s : State) (f : CacheSets → Except Refusal CacheSets) : Res State :=
  if tagPState s ≠ 0 then .error (.refuse .tagState) else withSets s f

/-- The first address of the data line of a physical address, `pa & ~15`. -/
def lineBase (pa : Word) : Word := pa &&& ~~~(15 : Word)

/-- Create Dirty Exclusive: the 16 bytes of the line become draws (log entry 20). -/
def drawLine (pa : Word) (s : State) : State :=
  let (d0, s1) := draw s
  let (d1, s2) := draw s1
  let a := (lineBase pa).toNat
  { s2 with mem := (s2.mem.writeBE a fullMask 8 d0).writeBE (a + 8) fullMask 8 d1 }

/-! ## The instruction -/

/-- `Operate(c, o, pa)` for the data cache. -/
def operateData (o : BitVec 3) (pa : Word) (s : State) : Res State :=
  match o.toNat with
  | 0 => withSets s fun c => .ok (indexInvalidateData pa c)
  | 1 => .ok (loadTag s)
  | 2 => storeTag s (indexStoreTagData pa)
  | 3 =>
    if regionKind s.params pa = .ram then withSets (drawLine pa s) fun c => .ok (createDirtyData pa c)
    else .error (.refuse .cacheState)
  | 4 => withSets s (hitInvalidateData pa)
  | 5 => withSets s fun c => .ok (hitWritebackInvalidateData pa c)
  | 6 => withSets s fun c => .ok (hitWritebackData pa c)
  | _ => .error (.refuse .reservedCacheOp)

/-- `Operate(c, o, pa)` for the instruction cache. -/
def operateInstr (o : BitVec 3) (pa : Word) (s : State) : Res State :=
  match o.toNat with
  | 0 => withSets s fun c => .ok (indexInvalidateInstr pa c)
  | 1 => .ok (loadTag s)
  | 2 => storeTag s fun c => .ok (indexInvalidateInstr pa c)
  | 4 => withSets s fun c => .ok (hitInvalidateInstr pa c)
  | 5 => withSets s (fillInstr pa)
  | 6 => .ok s
  | _ => .error (.refuse .reservedCacheOp)

/-- CACHE (R267). -/
def execCache (op : BitVec 5) (offset : BitVec 16) (base : RegIdx) (s : State) : Out :=
  completeNext (do
    requireCp0 s
    if (op.extractLsb' 0 2).toNat ≥ 2 then .error (.refuse .noSuchCache)
    else
      let (pa, _) ← translate (effAddr s base offset) .load s
      if op.extractLsb' 0 2 = 1 then operateData (op.extractLsb' 2 3) pa s
      else operateInstr (op.extractLsb' 2 3) pa s)

end Sys2Proof.Machine
end

