-- ==== Sys2Proof/Machine/Control.lean ====
section
/-! DEFINITION. Branches and jumps (42_control.md R189 to R208). -/

namespace Sys2Proof.Machine

/-! ## Shared shapes -/

/-- A conditional branch: `branch(pc + 4 + boff)` or NotTaken (R183). -/
def branchIf (c : Bool) (offset : BitVec 16) (s : State) : Out :=
  complete (.ok (if c then .taken (branchTarget s.pc offset) else .notTaken, s))

/-- A branch-likely: `branch(pc + 4 + boff)` or Annul (R187). -/
def branchLikely (c : Bool) (offset : BitVec 16) (s : State) : Out :=
  complete (.ok (if c then .taken (branchTarget s.pc offset) else .annul, s))

/-- The return address of a linking instruction (R186). -/
def linkAddress (s : State) : DWord := s.pc + 8

/-- r31 receives the return address. -/
def link (s : State) : State := writeReg s 31 (linkAddress s)

/-- A linking branch (R186, R201): refused with rs = 31; the link is written whether the branch is taken or not. -/
def branchLink (rs : RegIdx) (c : Bool) (offset : BitVec 16) (s : State) : Out :=
  if rs = 31 then refuseWith .linkOverwritesSource
  else complete (.ok (if c then .taken (branchTarget s.pc offset) else .notTaken, link s))

/-- A linking branch-likely (R186, R203). -/
def branchLinkLikely (rs : RegIdx) (c : Bool) (offset : BitVec 16) (s : State) : Out :=
  if rs = 31 then refuseWith .linkOverwritesSource
  else complete (.ok (if c then .taken (branchTarget s.pc offset) else .annul, link s))

/-! ## Branches comparing two registers -/

/-- BEQ (R189). -/
def execBeq (rs rt : RegIdx) (offset : BitVec 16) (s : State) : Out :=
  branchIf (readReg s rs = readReg s rt) offset s

/-- BNE (R190). -/
def execBne (rs rt : RegIdx) (offset : BitVec 16) (s : State) : Out :=
  branchIf (readReg s rs ≠ readReg s rt) offset s

/-- BEQL (R191). -/
def execBeql (rs rt : RegIdx) (offset : BitVec 16) (s : State) : Out :=
  branchLikely (readReg s rs = readReg s rt) offset s

/-- BNEL (R192). -/
def execBnel (rs rt : RegIdx) (offset : BitVec 16) (s : State) : Out :=
  branchLikely (readReg s rs ≠ readReg s rt) offset s

/-! ## Branches comparing a register with zero -/

/-- BLEZ (R193). -/
def execBlez (rs : RegIdx) (offset : BitVec 16) (s : State) : Out := branchIf (lez (readReg s rs)) offset s

/-- BGTZ (R194). -/
def execBgtz (rs : RegIdx) (offset : BitVec 16) (s : State) : Out := branchIf (gtz (readReg s rs)) offset s

/-- BLEZL (R195). -/
def execBlezl (rs : RegIdx) (offset : BitVec 16) (s : State) : Out := branchLikely (lez (readReg s rs)) offset s

/-- BGTZL (R196). -/
def execBgtzl (rs : RegIdx) (offset : BitVec 16) (s : State) : Out := branchLikely (gtz (readReg s rs)) offset s

/-- BLTZ (R197). -/
def execBltz (rs : RegIdx) (offset : BitVec 16) (s : State) : Out := branchIf (ltz (readReg s rs)) offset s

/-- BGEZ (R198). -/
def execBgez (rs : RegIdx) (offset : BitVec 16) (s : State) : Out := branchIf (gez (readReg s rs)) offset s

/-- BLTZL (R199). -/
def execBltzl (rs : RegIdx) (offset : BitVec 16) (s : State) : Out := branchLikely (ltz (readReg s rs)) offset s

/-- BGEZL (R200). -/
def execBgezl (rs : RegIdx) (offset : BitVec 16) (s : State) : Out := branchLikely (gez (readReg s rs)) offset s

/-- BLTZAL (R201). -/
def execBltzal (rs : RegIdx) (offset : BitVec 16) (s : State) : Out := branchLink rs (ltz (readReg s rs)) offset s

/-- BGEZAL (R202). -/
def execBgezal (rs : RegIdx) (offset : BitVec 16) (s : State) : Out := branchLink rs (gez (readReg s rs)) offset s

/-- BLTZALL (R203). -/
def execBltzall (rs : RegIdx) (offset : BitVec 16) (s : State) : Out :=
  branchLinkLikely rs (ltz (readReg s rs)) offset s

/-- BGEZALL (R204). -/
def execBgezall (rs : RegIdx) (offset : BitVec 16) (s : State) : Out :=
  branchLinkLikely rs (gez (readReg s rs)) offset s

/-! ## Jumps -/

/-- J (R205). -/
def execJ (target : BitVec 26) (s : State) : Out := complete (.ok (.taken (jumpTarget s.pc target), s))

/-- JAL (R206). -/
def execJal (target : BitVec 26) (s : State) : Out := complete (.ok (.taken (jumpTarget s.pc target), link s))

/-- JR (R207). -/
def execJr (rs : RegIdx) (s : State) : Out := complete (.ok (.taken (readReg s rs), s))

/-- JALR (R208). -/
def execJalr (rd rs : RegIdx) (s : State) : Out :=
  if rd = rs then refuseWith .linkOverwritesSource
  else complete (.ok (.taken (readReg s rs), writeReg s rd (linkAddress s)))

end Sys2Proof.Machine
end

