-- ==== Sys2Proof/Machine/Cop.lean ====
section
/-! DEFINITION. Coprocessor 1 and 2 instructions (45_coprocessor.md R269 to R279). -/

namespace Sys2Proof.Machine

/-- A coprocessor 1 instruction (R269): Coprocessor Unusable with CE = 1 while Status.CU1 = 0. -/
def coprocessor1 (s : State) : Out := if statusCU s 1 then refuseWith .fpuNotModelled else raiseIn s (.cpU 1)

/-- A coprocessor 2 instruction (R269): Coprocessor Unusable with CE = 2 while Status.CU2 = 0. -/
def coprocessor2 (s : State) : Out := if statusCU s 2 then refuseWith .noCoprocessor2 else raiseIn s (.cpU 2)

/-- COP1 (R270). -/
def execCop1 (_body : BitVec 26) (s : State) : Out := coprocessor1 s

/-- LWC1 (R271): no address is computed before the check. -/
def execLwc1 (_rt : RegIdx) (_offset : BitVec 16) (_base : RegIdx) (s : State) : Out := coprocessor1 s

/-- LDC1 (R272). -/
def execLdc1 (_rt : RegIdx) (_offset : BitVec 16) (_base : RegIdx) (s : State) : Out := coprocessor1 s

/-- SWC1 (R273). -/
def execSwc1 (_rt : RegIdx) (_offset : BitVec 16) (_base : RegIdx) (s : State) : Out := coprocessor1 s

/-- SDC1 (R274). -/
def execSdc1 (_rt : RegIdx) (_offset : BitVec 16) (_base : RegIdx) (s : State) : Out := coprocessor1 s

/-- COP2 (R275). -/
def execCop2 (_body : BitVec 26) (s : State) : Out := coprocessor2 s

/-- LWC2 (R276). -/
def execLwc2 (_rt : RegIdx) (_offset : BitVec 16) (_base : RegIdx) (s : State) : Out := coprocessor2 s

/-- LDC2 (R277). -/
def execLdc2 (_rt : RegIdx) (_offset : BitVec 16) (_base : RegIdx) (s : State) : Out := coprocessor2 s

/-- SWC2 (R278). -/
def execSwc2 (_rt : RegIdx) (_offset : BitVec 16) (_base : RegIdx) (s : State) : Out := coprocessor2 s

/-- SDC2 (R279). -/
def execSdc2 (_rt : RegIdx) (_offset : BitVec 16) (_base : RegIdx) (s : State) : Out := coprocessor2 s

end Sys2Proof.Machine
end

