-- ==== Sys2Proof/Machine/LoadStore.lean ====
section
/-! DEFINITION. Loads and stores (43_loadstore.md R213 to R237). -/

namespace Sys2Proof.Machine

/-! ## Shared shapes -/

/-- Sign extension of the low `w.bytes` bytes of a value. -/
def Width.sext (w : Width) (v : DWord) : DWord :=
  match w with
  | .byte => (v.setWidth 8).signExtend 64
  | .half => (v.setWidth 16).signExtend 64
  | .word => (v.setWidth 32).signExtend 64
  | .dword => v

/-- A load of width `w` at base + offset, whose destination receives a function of the value read (R213). -/
def loadWith (w : Width) (f : DWord → DWord) (rt : RegIdx) (offset : BitVec 16) (base : RegIdx) (s : State) : Out :=
  complete (do
    let (v, _, s') ← memRead s (effAddr s base offset) w
    return (.next, writeReg s' rt (f v)))

/-- A load of width `w`, sign-extended. -/
def loadSigned (w : Width) : RegIdx → BitVec 16 → RegIdx → State → Out := loadWith w w.sext

/-- A load of width `w`, zero-extended. -/
def loadUnsigned (w : Width) : RegIdx → BitVec 16 → RegIdx → State → Out := loadWith w w.trunc

/-- A store of width `w` of the low bytes of a register (R225). -/
def storeWith (w : Width) (rt : RegIdx) (offset : BitVec 16) (base : RegIdx) (s : State) : Out :=
  completeNext (memWrite s (effAddr s base offset) w (w.trunc (readReg s rt)))

/-- A partial store: the value and the byte mask as functions of the low bits of the address and the register (R229). -/
def storePartial (w : Width) (v : Nat → DWord → DWord) (m : Nat → BitVec 8) (rt : RegIdx) (offset : BitVec 16) (base : RegIdx)
    (s : State) : Out :=
  let ea := effAddr s base offset
  let k := ea.toNat % w.bytes
  completeNext (memWriteMasked s ea w (v k (readReg s rt)) (m k))

/-- LL and LLD after the read (R234): the destination, LLbit and LLAddr. -/
def linked (s : State) (rt : RegIdx) (v : DWord) (pa : Word) : State :=
  let s := writeReg s rt v
  { s with llbit := true, cp0 := { s.cp0 with llAddr := (pa.extractLsb' 4 28).setWidth 32 } }

/-- A load-linked of width `w` (R234). -/
def loadLinked (w : Width) (rt : RegIdx) (offset : BitVec 16) (base : RegIdx) (s : State) : Out :=
  complete (do
    let (v, pa, s') ← memRead s (effAddr s base offset) w
    return (.next, linked s' rt (w.sext v) pa))

/-- A store-conditional of width `w` (R236): the store when LLbit = 1, else only the translation; rt receives success. -/
def storeConditional (w : Width) (rt : RegIdx) (offset : BitVec 16) (base : RegIdx) (s : State) : Out :=
  complete (do
    if s.llbit then
      let s' ← memWrite s (effAddr s base offset) w (w.trunc (readReg s rt))
      return (.next, writeReg s' rt 1)
    else
      let _ ← translate (effAddr s base offset) .store s
      return (.next, writeReg s rt 0))

/-! ## Loads -/

/-- LB (R213). -/
def execLb (rt : RegIdx) (offset : BitVec 16) (base : RegIdx) (s : State) : Out := loadSigned .byte rt offset base s

/-- LBU (R214). -/
def execLbu (rt : RegIdx) (offset : BitVec 16) (base : RegIdx) (s : State) : Out := loadUnsigned .byte rt offset base s

/-- LH (R215). -/
def execLh (rt : RegIdx) (offset : BitVec 16) (base : RegIdx) (s : State) : Out := loadSigned .half rt offset base s

/-- LHU (R216). -/
def execLhu (rt : RegIdx) (offset : BitVec 16) (base : RegIdx) (s : State) : Out := loadUnsigned .half rt offset base s

/-- LW (R217). -/
def execLw (rt : RegIdx) (offset : BitVec 16) (base : RegIdx) (s : State) : Out := loadSigned .word rt offset base s

/-- LWU (R218). -/
def execLwu (rt : RegIdx) (offset : BitVec 16) (base : RegIdx) (s : State) : Out :=
  after64 s (loadUnsigned .word rt offset base s)

/-- LD (R219). -/
def execLd (rt : RegIdx) (offset : BitVec 16) (base : RegIdx) (s : State) : Out :=
  after64 s (loadUnsigned .dword rt offset base s)

/-! ## Partial loads -/

/-- The word LWL leaves (R220), from the aligned word `w`, the old register and k = ea[1:0]. -/
def lwlWord (k : Nat) (w old : Word) : Word := (w <<< (8 * k)) ||| (old &&& BitVec.ofNat 32 (2 ^ (8 * k) - 1))

/-- The word LWR leaves (R221). -/
def lwrWord (k : Nat) (w old : Word) : Word :=
  (old &&& ~~~(BitVec.allOnes 32 >>> (8 * (3 - k)))) ||| (w >>> (8 * (3 - k)))

/-- The doubleword LDL leaves (R222). -/
def ldlDouble (k : Nat) (d old : DWord) : DWord := (d <<< (8 * k)) ||| (old &&& BitVec.ofNat 64 (2 ^ (8 * k) - 1))

/-- The doubleword LDR leaves (R223). -/
def ldrDouble (k : Nat) (d old : DWord) : DWord :=
  (old &&& ~~~(BitVec.allOnes 64 >>> (8 * (7 - k)))) ||| (d >>> (8 * (7 - k)))

/-- LWL (R220). -/
def execLwl (rt : RegIdx) (offset : BitVec 16) (base : RegIdx) (s : State) : Out :=
  let k := (effAddr s base offset).toNat % 4
  loadWith .word (fun v => sext32 (lwlWord k (low32 v) (low32 (readReg s rt)))) rt offset base s

/-- LWR (R221): with k < 3 bits [63:32] of the result are a draw. -/
def execLwr (rt : RegIdx) (offset : BitVec 16) (base : RegIdx) (s : State) : Out :=
  let ea := effAddr s base offset
  let k := ea.toNat % 4
  complete (do
    let (v, _, s') ← memRead s ea .word
    let r := lwrWord k (low32 v) (low32 (readReg s rt))
    if k = 3 then return (.next, writeReg s' rt (sext32 r))
    else return (.next, writeReg (draw s').2 rt (low32 (draw s').1 ++ r)))

/-- LDL (R222). -/
def execLdl (rt : RegIdx) (offset : BitVec 16) (base : RegIdx) (s : State) : Out :=
  let k := (effAddr s base offset).toNat % 8
  after64 s (loadWith .dword (fun v => ldlDouble k v (readReg s rt)) rt offset base s)

/-- LDR (R223). -/
def execLdr (rt : RegIdx) (offset : BitVec 16) (base : RegIdx) (s : State) : Out :=
  let k := (effAddr s base offset).toNat % 8
  after64 s (loadWith .dword (fun v => ldrDouble k v (readReg s rt)) rt offset base s)

/-! ## Stores -/

/-- SB (R225). -/
def execSb (rt : RegIdx) (offset : BitVec 16) (base : RegIdx) (s : State) : Out := storeWith .byte rt offset base s

/-- SH (R226). -/
def execSh (rt : RegIdx) (offset : BitVec 16) (base : RegIdx) (s : State) : Out := storeWith .half rt offset base s

/-- SW (R227). -/
def execSw (rt : RegIdx) (offset : BitVec 16) (base : RegIdx) (s : State) : Out := storeWith .word rt offset base s

/-- SD (R228). -/
def execSd (rt : RegIdx) (offset : BitVec 16) (base : RegIdx) (s : State) : Out :=
  after64 s (storeWith .dword rt offset base s)

/-! ## Partial stores -/

/-- The value SWL stores (R229). -/
def swlValue (k : Nat) (v : DWord) : DWord := zext32 (low32 v >>> (8 * k))

/-- The value SWR stores (R230). -/
def swrValue (k : Nat) (v : DWord) : DWord := zext32 (low32 v <<< (8 * (3 - k)))

/-- The value SDL stores (R231). -/
def sdlValue (k : Nat) (v : DWord) : DWord := v >>> (8 * k)

/-- The value SDR stores (R232). -/
def sdrValue (k : Nat) (v : DWord) : DWord := v <<< (8 * (7 - k))

/-- SWL (R229). -/
def execSwl (rt : RegIdx) (offset : BitVec 16) (base : RegIdx) (s : State) : Out :=
  storePartial .word swlValue (fun k => byteMask k 3) rt offset base s

/-- SWR (R230). -/
def execSwr (rt : RegIdx) (offset : BitVec 16) (base : RegIdx) (s : State) : Out :=
  storePartial .word swrValue (fun k => byteMask 0 k) rt offset base s

/-- SDL (R231). -/
def execSdl (rt : RegIdx) (offset : BitVec 16) (base : RegIdx) (s : State) : Out :=
  after64 s (storePartial .dword sdlValue (fun k => byteMask k 7) rt offset base s)

/-- SDR (R232). -/
def execSdr (rt : RegIdx) (offset : BitVec 16) (base : RegIdx) (s : State) : Out :=
  after64 s (storePartial .dword sdrValue (fun k => byteMask 0 k) rt offset base s)

/-! ## Load-linked and store-conditional -/

/-- LL (R234). -/
def execLl (rt : RegIdx) (offset : BitVec 16) (base : RegIdx) (s : State) : Out := loadLinked .word rt offset base s

/-- LLD (R235). -/
def execLld (rt : RegIdx) (offset : BitVec 16) (base : RegIdx) (s : State) : Out :=
  after64 s (loadLinked .dword rt offset base s)

/-- SC (R236). -/
def execSc (rt : RegIdx) (offset : BitVec 16) (base : RegIdx) (s : State) : Out := storeConditional .word rt offset base s

/-- SCD (R237). -/
def execScd (rt : RegIdx) (offset : BitVec 16) (base : RegIdx) (s : State) : Out :=
  after64 s (storeConditional .dword rt offset base s)

end Sys2Proof.Machine
end

