-- ==== Sys2Proof/Machine/MulDiv.lean ====
section
/-! DEFINITION. Multiply, divide and HI/LO moves (41_muldiv.md R170 to R181). -/

namespace Sys2Proof.Machine

/-! ## The pairs -/

/-- HI and LO of a 64-bit product, each half sign-extended (R170). -/
def writeProduct64 (s : State) (p : DWord) : Out := writePair s (sext32 (p.extractLsb' 32 32)) (sext32 (p.extractLsb' 0 32))

/-- HI and LO of a 128-bit product (R172). -/
def writeProduct128 (s : State) (p : BitVec 128) : Out := writePair s (p.extractLsb' 64 64) (p.extractLsb' 0 64)

/-- The word multiplies and divides: defined only on sext32 sources (R168). -/
def wordPair (s : State) (rs rt : RegIdx) (defined : Out) : Out := if words2 s rs rt then defined else drawPair32 s

/-! ## Multiply -/

/-- MULT (R170). -/
def execMult (rs rt : RegIdx) (s : State) : Out :=
  wordPair s rs rt
    (writeProduct64 s (BitVec.ofInt 64 ((low32 (readReg s rs)).toInt * (low32 (readReg s rt)).toInt)))

/-- MULTU (R171). -/
def execMultu (rs rt : RegIdx) (s : State) : Out :=
  wordPair s rs rt
    (writeProduct64 s (BitVec.ofNat 64 ((low32 (readReg s rs)).toNat * (low32 (readReg s rt)).toNat)))

/-- DMULT (R172). -/
def execDmult (rs rt : RegIdx) (s : State) : Out :=
  after64 s (writeProduct128 s (BitVec.ofInt 128 ((readReg s rs).toInt * (readReg s rt).toInt)))

/-- DMULTU (R173). -/
def execDmultu (rs rt : RegIdx) (s : State) : Out :=
  after64 s (writeProduct128 s (BitVec.ofNat 128 ((readReg s rs).toNat * (readReg s rt).toNat)))

/-! ## Divide -/

/-- DIV (R174). -/
def execDiv (rs rt : RegIdx) (s : State) : Out :=
  let n := (low32 (readReg s rs)).toInt
  let d := (low32 (readReg s rt)).toInt
  wordPair s rs rt
    (if d = 0 then drawPair32 s
     else writePair s (sext32 (BitVec.ofInt 32 (rem n d))) (sext32 (BitVec.ofInt 32 (quot n d))))

/-- DIVU (R175). -/
def execDivu (rs rt : RegIdx) (s : State) : Out :=
  let n := (low32 (readReg s rs)).toNat
  let d := (low32 (readReg s rt)).toNat
  wordPair s rs rt
    (if d = 0 then drawPair32 s
     else writePair s (sext32 (BitVec.ofNat 32 (n % d))) (sext32 (BitVec.ofNat 32 (n / d))))

/-- DDIV (R176). -/
def execDdiv (rs rt : RegIdx) (s : State) : Out :=
  let n := (readReg s rs).toInt
  let d := (readReg s rt).toInt
  after64 s (if d = 0 then drawPair64 s else writePair s (BitVec.ofInt 64 (rem n d)) (BitVec.ofInt 64 (quot n d)))

/-- DDIVU (R177). -/
def execDdivu (rs rt : RegIdx) (s : State) : Out :=
  let n := (readReg s rs).toNat
  let d := (readReg s rt).toNat
  after64 s (if d = 0 then drawPair64 s else writePair s (BitVec.ofNat 64 (n % d)) (BitVec.ofNat 64 (n / d)))

/-! ## HI and LO moves -/

/-- The value of hi_read_age and lo_read_age after MFHI and MFLO (70_reset_and_hazards.md R334). -/
def hazardWindow : Nat := 3

/-- MFHI (R178). -/
def execMfhi (rd : RegIdx) (s : State) : Out :=
  complete (.ok (.next, { writeReg s rd s.hi with hiReadAge := hazardWindow }))

/-- MFLO (R179). -/
def execMflo (rd : RegIdx) (s : State) : Out :=
  complete (.ok (.next, { writeReg s rd s.lo with loReadAge := hazardWindow }))

/-- MTHI (R180). -/
def execMthi (rs : RegIdx) (s : State) : Out := completeNext (writeHi s (readReg s rs))

/-- MTLO (R181). -/
def execMtlo (rs : RegIdx) (s : State) : Out := completeNext (writeLo s (readReg s rs))

end Sys2Proof.Machine
end

