-- ==== Sys2Proof/Machine/Shift.lean ====
section
/-! DEFINITION. Shifts (40_alu.md R150 to R164). -/

namespace Sys2Proof.Machine

/-! ## Shift amounts -/

/-- `u(x[rs][4:0])`: the amount of a variable word shift (R153). -/
def amount5 (s : State) (rs : RegIdx) : Nat := ((readReg s rs).extractLsb' 0 5).toNat

/-- `u(x[rs][5:0])`: the amount of a variable doubleword shift (R162). -/
def amount6 (s : State) (rs : RegIdx) : Nat := ((readReg s rs).extractLsb' 0 6).toNat

/-! ## Word shifts -/

/-- SLL (R150): no precondition on rt. -/
def execSll (rd rt : RegIdx) (sa : BitVec 5) (s : State) : Out :=
  writeWord s rd true (low32 (readReg s rt) <<< sa.toNat)

/-- SRL (R151). -/
def execSrl (rd rt : RegIdx) (sa : BitVec 5) (s : State) : Out :=
  writeWord s rd (isSext32 (readReg s rt)) (low32 (readReg s rt) >>> sa.toNat)

/-- SRA (R152). -/
def execSra (rd rt : RegIdx) (sa : BitVec 5) (s : State) : Out :=
  writeWord s rd (isSext32 (readReg s rt)) ((low32 (readReg s rt)).sshiftRight sa.toNat)

/-- SLLV (R153): no precondition on rt. -/
def execSllv (rd rt rs : RegIdx) (s : State) : Out :=
  writeWord s rd true (low32 (readReg s rt) <<< amount5 s rs)

/-- SRLV (R154). -/
def execSrlv (rd rt rs : RegIdx) (s : State) : Out :=
  writeWord s rd (isSext32 (readReg s rt)) (low32 (readReg s rt) >>> amount5 s rs)

/-- SRAV (R155). -/
def execSrav (rd rt rs : RegIdx) (s : State) : Out :=
  writeWord s rd (isSext32 (readReg s rt)) ((low32 (readReg s rt)).sshiftRight (amount5 s rs))

/-! ## Doubleword shifts -/

/-- DSLL (R156). -/
def execDsll (rd rt : RegIdx) (sa : BitVec 5) (s : State) : Out := writeDouble s rd (readReg s rt <<< sa.toNat)

/-- DSRL (R157). -/
def execDsrl (rd rt : RegIdx) (sa : BitVec 5) (s : State) : Out := writeDouble s rd (readReg s rt >>> sa.toNat)

/-- DSRA (R158). -/
def execDsra (rd rt : RegIdx) (sa : BitVec 5) (s : State) : Out :=
  writeDouble s rd ((readReg s rt).sshiftRight sa.toNat)

/-- DSLL32 (R159). -/
def execDsll32 (rd rt : RegIdx) (sa : BitVec 5) (s : State) : Out :=
  writeDouble s rd (readReg s rt <<< (sa.toNat + 32))

/-- DSRL32 (R160). -/
def execDsrl32 (rd rt : RegIdx) (sa : BitVec 5) (s : State) : Out :=
  writeDouble s rd (readReg s rt >>> (sa.toNat + 32))

/-- DSRA32 (R161). -/
def execDsra32 (rd rt : RegIdx) (sa : BitVec 5) (s : State) : Out :=
  writeDouble s rd ((readReg s rt).sshiftRight (sa.toNat + 32))

/-- DSLLV (R162). -/
def execDsllv (rd rt rs : RegIdx) (s : State) : Out := writeDouble s rd (readReg s rt <<< amount6 s rs)

/-- DSRLV (R163). -/
def execDsrlv (rd rt rs : RegIdx) (s : State) : Out := writeDouble s rd (readReg s rt >>> amount6 s rs)

/-- DSRAV (R164). -/
def execDsrav (rd rt rs : RegIdx) (s : State) : Out := writeDouble s rd ((readReg s rt).sshiftRight (amount6 s rs))

end Sys2Proof.Machine
end

