-- ==== Sys2Proof/Machine/System.lean ====
section
/-! DEFINITION. Environment call, breakpoint, conditional traps, SYNC and ERET (44_system.md R239 to R254, R266). -/

namespace Sys2Proof.Machine

/-- A conditional trap (R241). -/
def trapIf (c : Bool) (s : State) : Out := if c then raiseIn s .tr else complete (.ok (.next, s))

/-- SYSCALL (R239): the code is ignored. -/
def execSyscall (_code : BitVec 20) (s : State) : Out := raiseIn s .sys

/-- BREAK (R240): the code is ignored. -/
def execBrk (_code : BitVec 20) (s : State) : Out := raiseIn s .bp

/-- TGE (R242). -/
def execTge (rs rt : RegIdx) (_tcode : BitVec 10) (s : State) : Out := trapIf (geS (readReg s rs) (readReg s rt)) s

/-- TGEU (R243). -/
def execTgeu (rs rt : RegIdx) (_tcode : BitVec 10) (s : State) : Out := trapIf (geU (readReg s rs) (readReg s rt)) s

/-- TLT (R244). -/
def execTlt (rs rt : RegIdx) (_tcode : BitVec 10) (s : State) : Out := trapIf (ltS (readReg s rs) (readReg s rt)) s

/-- TLTU (R245). -/
def execTltu (rs rt : RegIdx) (_tcode : BitVec 10) (s : State) : Out := trapIf (ltU (readReg s rs) (readReg s rt)) s

/-- TEQ (R246). -/
def execTeq (rs rt : RegIdx) (_tcode : BitVec 10) (s : State) : Out := trapIf (readReg s rs = readReg s rt) s

/-- TNE (R247). -/
def execTne (rs rt : RegIdx) (_tcode : BitVec 10) (s : State) : Out := trapIf (readReg s rs ≠ readReg s rt) s

/-- TGEI (R248). -/
def execTgei (rs : RegIdx) (imm : BitVec 16) (s : State) : Out := trapIf (geS (readReg s rs) (simm imm)) s

/-- TGEIU (R249). -/
def execTgeiu (rs : RegIdx) (imm : BitVec 16) (s : State) : Out := trapIf (geU (readReg s rs) (simm imm)) s

/-- TLTI (R250). -/
def execTlti (rs : RegIdx) (imm : BitVec 16) (s : State) : Out := trapIf (ltS (readReg s rs) (simm imm)) s

/-- TLTIU (R251). -/
def execTltiu (rs : RegIdx) (imm : BitVec 16) (s : State) : Out := trapIf (ltU (readReg s rs) (simm imm)) s

/-- TEQI (R252). -/
def execTeqi (rs : RegIdx) (imm : BitVec 16) (s : State) : Out := trapIf (readReg s rs = simm imm) s

/-- TNEI (R253). -/
def execTnei (rs : RegIdx) (imm : BitVec 16) (s : State) : Out := trapIf (readReg s rs ≠ simm imm) s

/-- SYNC (R254): orders nothing beyond the block's sequential order. -/
def execSync (s : State) : Out := complete (.ok (.next, s))

/-- ERET (R266). -/
def execEret (s : State) : Out :=
  complete (do
    requireCp0 s
    return (.redirected, exceptionReturn s))

end Sys2Proof.Machine
end

