-- ==== Sys2Proof/Machine/Interrupts.lean ====
section
/-! DEFINITION. The interrupt lines and the interrupt check (60_exceptions.md R298 to R300). -/

namespace Sys2Proof.Machine

/-- Cause.IP[7:0] at the moment it is read (R298): IP7 the timer, IP6..IP3 tied to 0, IP2 the MI, IP1 and IP0 stored. -/
def pendingIP (s : State) : BitVec 8 :=
  bit s.timer.pending ++ (0 : BitVec 4) ++ bit s.mi.line ++ s.cp0.cause.extractLsb' 8 2

/-- Cause as an instruction reads it (44_system.md R255). -/
def causeValue (s : State) : Word := putField 8 (pendingIP s) s.cp0.cause

/-- The enabled pending interrupts. -/
def enabledIP (s : State) : BitVec 8 := pendingIP s &&& statusIM s

/-- Whether the interrupt check takes an interrupt (R299). -/
def interruptDue (s : State) : Bool :=
  decide (s.refused = none) && decide (s.core = .running) && statusIE s && !statusEXL s && !statusERL s &&
  decide (enabledIP s ≠ 0)

/-- `InterruptCheck()` (R299). -/
def interruptCheck (s : State) : State := if interruptDue s then exceptionEntry .int s else s

/-- What `pendingInterrupt()` answers (R300). -/
inductive InterruptKind where
  | timer
  | mi (lines : BitVec 6)
  | software (k : Nat)
deriving DecidableEq, Repr

/-- `pendingInterrupt()` (R300): the highest-numbered enabled pending line. -/
def pendingInterrupt (s : State) : Option InterruptKind :=
  if (enabledIP s).getLsbD 7 then some .timer
  else if (enabledIP s).getLsbD 2 then some (.mi (s.mi.intr &&& s.mi.mask))
  else if (enabledIP s).getLsbD 1 then some (.software 1)
  else if (enabledIP s).getLsbD 0 then some (.software 0)
  else none

end Sys2Proof.Machine
end

