-- ==== Sys2Proof/Machine/Cp0.lean ====
section
/-! DEFINITION. The CP0 registers as instructions see them (10_state.md R37 to R59, 44_system.md R255, R256) and the CP0 moves (R257 to
R260). -/

namespace Sys2Proof.Machine

/-! ## Reading and writing a CP0 register -/

/-- The 64-bit registers of R38: EntryLo0, EntryLo1, Context, BadVAddr, EntryHi, EPC, XContext, ErrorEPC. -/
def cp0Wide (n : RegIdx) : Bool := n ∈ ([2, 3, 4, 8, 10, 14, 20, 30] : List RegIdx)

/-- The reserved registers of R59. -/
def cp0Reserved (n : RegIdx) : Bool := n ∈ ([7, 21, 22, 23, 24, 25, 31] : List RegIdx)

/-- Wired[5:0]. -/
def wiredIndex (s : State) : Nat := (s.cp0.wired.extractLsb' 0 6).toNat

/-- A read of Random (R40): a draw in [Wired, 31], or `draw_6` when Wired is above 31. -/
def randomValue (s : State) : DWord × State :=
  if wiredIndex s ≤ 31 then (BitVec.ofNat 64 (drawFrom (wiredIndex s) s).1, (drawFrom (wiredIndex s) s).2)
  else (((draw s).1.setWidth 6).setWidth 64, (draw s).2)

/-- Config with its EC field (R53; log entry 2). -/
def configValue (p : Params) (c : Word) : Word := putField 28 p.configEC c

/-- `CP0Read(n)` (R255). -/
def cp0Read (s : State) (n : RegIdx) : DWord × State :=
  match n.toNat with
  | 0 => (zext32 s.cp0.index, s)
  | 1 => randomValue s
  | 2 => (s.cp0.entryLo0, s)
  | 3 => (s.cp0.entryLo1, s)
  | 4 => (s.cp0.context, s)
  | 5 => (zext32 s.cp0.pageMask, s)
  | 6 => (zext32 s.cp0.wired, s)
  | 8 => (s.cp0.badVAddr, s)
  | 9 => (zext32 s.cp0.count, s)
  | 10 => (s.cp0.entryHi, s)
  | 11 => (zext32 s.cp0.compare, s)
  | 12 => (zext32 s.cp0.status, s)
  | 13 => (zext32 (causeValue s), s)
  | 14 => (s.cp0.epc, s)
  | 15 => (zext32 s.params.prid, s)
  | 16 => (zext32 (configValue s.params s.cp0.config), s)
  | 17 => (zext32 s.cp0.llAddr, s)
  | 18 => (zext32 s.cp0.watchLo, s)
  | 19 => (zext32 s.cp0.watchHi, s)
  | 20 => (s.cp0.xContext, s)
  | 26 => (zext32 s.cp0.pErr, s)
  | 27 => (0, s)
  | 28 => (zext32 s.cp0.tagLo, s)
  | 29 => (0, s)
  | 30 => (s.cp0.errorEpc, s)
  | _ => draw s

/-- The writable bits of Config (R53): EP, BE, CU and K0. -/
def configWritable : Word := 0x0F00800F

/-- `CP0Write(n, v)` (R256), by the write rules of 10_state.md. -/
def cp0Write (s : State) (n : RegIdx) (v : DWord) : Res State :=
  let c := s.cp0
  let w := low32 v
  match n.toNat with
  | 0 => .ok { s with cp0 := { c with index := w &&& 0x8000003F } }
  | 2 => .ok { s with cp0 := { c with entryLo0 := v &&& 0x03FFFFFF } }
  | 3 => .ok { s with cp0 := { c with entryLo1 := v &&& 0x03FFFFFF } }
  | 4 => .ok { s with cp0 := { c with context := (v &&& 0xFFFFFFFFFF800000) ||| (c.context &&& 0x007FFFF0) } }
  | 5 => .ok { s with cp0 := { c with pageMask := w &&& 0x01FFE000 } }
  | 6 => .ok { s with cp0 := { c with wired := w &&& 0x3F } }
  | 9 => .ok { s with cp0 := { c with count := w } }
  | 10 => .ok { s with cp0 := { c with entryHi := v &&& 0xC00000FFFFFFE0FF } }
  | 11 => .ok { s with cp0 := { c with compare := w }, timer := { s.timer with pending := false } }
  | 12 =>
    if v.extractLsb' 3 2 = 3 then .error (.refuse .unpredictableMode)
    else .ok { s with cp0 := { c with status := w &&& 0xFF57FFFF } }
  | 13 => .ok { s with cp0 := { c with cause := putField 8 (v.extractLsb' 8 2) c.cause } }
  | 14 => .ok { s with cp0 := { c with epc := v } }
  | 16 =>
    if v.getLsbD 15 then
      .ok { s with cp0 := { c with config := (c.config &&& ~~~configWritable) ||| (w &&& configWritable) } }
    else .error (.refuse .littleEndianConfig)
  | 17 => .ok { s with cp0 := { c with llAddr := w } }
  | 18 => .ok { s with cp0 := { c with watchLo := w &&& 0xFFFFFFFB } }
  | 19 => .ok { s with cp0 := { c with watchHi := w &&& 0xF } }
  | 20 => .ok { s with cp0 := { c with xContext := (v &&& 0xFFFFFFFE00000000) ||| (c.xContext &&& 0x1FFFFFFF0) } }
  | 26 => .ok { s with cp0 := { c with pErr := w &&& 0xFF } }
  | 28 => .ok { s with cp0 := { c with tagLo := w &&& 0x0FFFFFC0 } }
  | 30 => .ok { s with cp0 := { c with errorEpc := v } }
  | _ => .ok s

/-! ## The moves -/

/-- MFC0 (R257). -/
def execMfc0 (rt rd : RegIdx) (s : State) : Out :=
  complete (do
    requireCp0 s
    return (.next, writeReg (cp0Read s rd).2 rt (sext32 (low32 (cp0Read s rd).1))))

/-- DMFC0 (R258): of a 32-bit register, reserved ones among them, the destination receives `draw_64`. `Require64()` checks nothing in
kernel mode. -/
def execDmfc0 (rt rd : RegIdx) (s : State) : Out :=
  complete (do
    requireCp0 s
    require64 s
    if cp0Wide rd then return (.next, writeReg (cp0Read s rd).2 rt (cp0Read s rd).1)
    else return (.next, writeReg (draw s).2 rt (draw s).1))

/-- MTC0 (R259). -/
def execMtc0 (rt rd : RegIdx) (s : State) : Out :=
  completeNext (do
    requireCp0 s
    cp0Write s rd (sext32 (low32 (readReg s rt))))

/-- DMTC0 (R260). -/
def execDmtc0 (rt rd : RegIdx) (s : State) : Out :=
  completeNext (do
    requireCp0 s
    require64 s
    if cp0Wide rd || cp0Reserved rd then cp0Write s rd (readReg s rt)
    else .error (.refuse .dmtc0To32BitRegister))

end Sys2Proof.Machine
end

