-- ==== Sys2Proof/Machine/Tlb.lean ====
section
/-! DEFINITION. The TLB instructions (44_system.md R261 to R265). -/

namespace Sys2Proof.Machine

/-- The legal values of PageMask.MASK (10_state.md R43, R261). -/
def legalMask (m : BitVec 12) : Bool := m ∈ ([0x000, 0x003, 0x00F, 0x03F, 0x0FF, 0x3FF, 0xFFF] : List (BitVec 12))

/-- The page descriptor of an EntryLo value (R261). -/
def pageOfEntryLo (e : DWord) : TlbPage :=
  { pfn := e.extractLsb' 6 20, c := e.extractLsb' 3 3, d := e.getLsbD 2, v := e.getLsbD 1 }

/-- PageMask.MASK. -/
def maskField (c : Cp0) : BitVec 12 := c.pageMask.extractLsb' 13 12

/-- The entry `TLBWrite` writes (R261). -/
def entryOfCp0 (c : Cp0) : TlbEntry :=
  { mask := maskField c
    r := c.entryHi.extractLsb' 62 2
    vpn2 := c.entryHi.extractLsb' 13 27
    asid := c.entryHi.extractLsb' 0 8
    g := c.entryLo0.getLsbD 0 && c.entryLo1.getLsbD 0
    even := pageOfEntryLo c.entryLo0
    odd := pageOfEntryLo c.entryLo1 }

/-- `TLBWrite(i)` (R261). -/
def tlbWrite (s : State) (i : Fin 32) : Res State :=
  if legalMask (maskField s.cp0) then .ok { s with tlb := s.tlb.set i.val (entryOfCp0 s.cp0) i.isLt }
  else .error (.refuse .illegalPageMask)

/-- The EntryLo value of a page descriptor and its entry's G bit (R261). -/
def entryLoOfPage (p : TlbPage) (g : Bool) : DWord := (p.pfn ++ p.c ++ bit p.d ++ bit p.v ++ bit g).setWidth 64

/-- The EntryHi value of an entry (R261). -/
def entryHiOfEntry (e : TlbEntry) : DWord := e.r ++ (0 : BitVec 22) ++ e.vpn2 ++ (0 : BitVec 5) ++ e.asid

/-- The CP0 registers after `TLBRead` of an entry (R261). -/
def cp0OfEntry (e : TlbEntry) (c : Cp0) : Cp0 :=
  { c with
    pageMask := (e.mask ++ (0 : BitVec 13)).setWidth 32
    entryHi := entryHiOfEntry e
    entryLo0 := entryLoOfPage e.even e.g
    entryLo1 := entryLoOfPage e.odd e.g }

/-- `TLBRead(i)` (R261). -/
def tlbRead (s : State) (i : Nat) : Res State :=
  if h : i < 32 then .ok { s with cp0 := cp0OfEntry (s.tlb[i]'h) s.cp0 } else .error (.refuse .tlbIndexOutOfRange)

/-- Index[5:0]. -/
def indexField (s : State) : Nat := (s.cp0.index.extractLsb' 0 6).toNat

/-- The probe of EntryHi (R265). -/
def tlbProbe (s : State) : Res State :=
  match tlbHits s s.cp0.entryHi with
  | [] => .ok { (draw s).2 with
      cp0 := { s.cp0 with index := 0x80000000 ||| ((draw s).1.setWidth 6).setWidth 32 } }
  | [i] => .ok { s with cp0 := { s.cp0 with index := BitVec.ofNat 32 i.val } }
  | _ => .error (.refuse .tlbMultipleMatch)

/-- TLBR (R262). -/
def execTlbr (s : State) : Out :=
  completeNext (do
    requireCp0 s
    tlbRead s (indexField s))

/-- TLBWI (R263). -/
def execTlbwi (s : State) : Out :=
  completeNext (do
    requireCp0 s
    if h : indexField s < 32 then tlbWrite s ⟨indexField s, h⟩ else .error (.refuse .tlbIndexOutOfRange))

/-- A number drawn in [lo, 31] is below 32. -/
theorem drawFrom_lt {lo : Nat} (h : lo < 32) (s : State) : (drawFrom lo s).1 < 32 := by
  have : (draw s).1.toNat % (32 - lo) < 32 - lo := Nat.mod_lt _ (by omega)
  simp only [drawFrom]
  omega

/-- TLBWR (R264): the entry is a draw in [Wired, 31]. -/
def execTlbwr (s : State) : Out :=
  completeNext (do
    requireCp0 s
    if h : wiredIndex s < 32 then
      tlbWrite (drawFrom (wiredIndex s) s).2 ⟨(drawFrom (wiredIndex s) s).1, drawFrom_lt h s⟩
    else .error (.refuse .wiredOutOfRange))

/-- TLBP (R265). -/
def execTlbp (s : State) : Out :=
  completeNext (do
    requireCp0 s
    tlbProbe s)

end Sys2Proof.Machine
end

