-- ==== Sys2Proof/Machine/Dispatch.lean ====
section
/-! DEFINITION. The dispatch `Rule[inst.op](inst)` of 60_exceptions.md R284: one arm per instruction. -/

namespace Sys2Proof.Machine

/-- The instruction's own rule. -/
def exec (i : Instr) (s : State) : Host.Outcome State Fault Refusal :=
  match i with
  | .sll rd rt sa => Sys2Proof.Machine.execSll rd rt sa s
  | .srl rd rt sa => Sys2Proof.Machine.execSrl rd rt sa s
  | .sra rd rt sa => Sys2Proof.Machine.execSra rd rt sa s
  | .sllv rd rt rs => Sys2Proof.Machine.execSllv rd rt rs s
  | .srlv rd rt rs => Sys2Proof.Machine.execSrlv rd rt rs s
  | .srav rd rt rs => Sys2Proof.Machine.execSrav rd rt rs s
  | .jr rs => Sys2Proof.Machine.execJr rs s
  | .jalr rd rs => Sys2Proof.Machine.execJalr rd rs s
  | .syscall code => Sys2Proof.Machine.execSyscall code s
  | .brk code => Sys2Proof.Machine.execBrk code s
  | .sync => Sys2Proof.Machine.execSync s
  | .mfhi rd => Sys2Proof.Machine.execMfhi rd s
  | .mthi rs => Sys2Proof.Machine.execMthi rs s
  | .mflo rd => Sys2Proof.Machine.execMflo rd s
  | .mtlo rs => Sys2Proof.Machine.execMtlo rs s
  | .dsllv rd rt rs => Sys2Proof.Machine.execDsllv rd rt rs s
  | .dsrlv rd rt rs => Sys2Proof.Machine.execDsrlv rd rt rs s
  | .dsrav rd rt rs => Sys2Proof.Machine.execDsrav rd rt rs s
  | .mult rs rt => Sys2Proof.Machine.execMult rs rt s
  | .multu rs rt => Sys2Proof.Machine.execMultu rs rt s
  | .div rs rt => Sys2Proof.Machine.execDiv rs rt s
  | .divu rs rt => Sys2Proof.Machine.execDivu rs rt s
  | .dmult rs rt => Sys2Proof.Machine.execDmult rs rt s
  | .dmultu rs rt => Sys2Proof.Machine.execDmultu rs rt s
  | .ddiv rs rt => Sys2Proof.Machine.execDdiv rs rt s
  | .ddivu rs rt => Sys2Proof.Machine.execDdivu rs rt s
  | .add rd rs rt => Sys2Proof.Machine.execAdd rd rs rt s
  | .addu rd rs rt => Sys2Proof.Machine.execAddu rd rs rt s
  | .sub rd rs rt => Sys2Proof.Machine.execSub rd rs rt s
  | .subu rd rs rt => Sys2Proof.Machine.execSubu rd rs rt s
  | .and rd rs rt => Sys2Proof.Machine.execAnd rd rs rt s
  | .or rd rs rt => Sys2Proof.Machine.execOr rd rs rt s
  | .xor rd rs rt => Sys2Proof.Machine.execXor rd rs rt s
  | .nor rd rs rt => Sys2Proof.Machine.execNor rd rs rt s
  | .slt rd rs rt => Sys2Proof.Machine.execSlt rd rs rt s
  | .sltu rd rs rt => Sys2Proof.Machine.execSltu rd rs rt s
  | .dadd rd rs rt => Sys2Proof.Machine.execDadd rd rs rt s
  | .daddu rd rs rt => Sys2Proof.Machine.execDaddu rd rs rt s
  | .dsub rd rs rt => Sys2Proof.Machine.execDsub rd rs rt s
  | .dsubu rd rs rt => Sys2Proof.Machine.execDsubu rd rs rt s
  | .tge rs rt tcode => Sys2Proof.Machine.execTge rs rt tcode s
  | .tgeu rs rt tcode => Sys2Proof.Machine.execTgeu rs rt tcode s
  | .tlt rs rt tcode => Sys2Proof.Machine.execTlt rs rt tcode s
  | .tltu rs rt tcode => Sys2Proof.Machine.execTltu rs rt tcode s
  | .teq rs rt tcode => Sys2Proof.Machine.execTeq rs rt tcode s
  | .tne rs rt tcode => Sys2Proof.Machine.execTne rs rt tcode s
  | .dsll rd rt sa => Sys2Proof.Machine.execDsll rd rt sa s
  | .dsrl rd rt sa => Sys2Proof.Machine.execDsrl rd rt sa s
  | .dsra rd rt sa => Sys2Proof.Machine.execDsra rd rt sa s
  | .dsll32 rd rt sa => Sys2Proof.Machine.execDsll32 rd rt sa s
  | .dsrl32 rd rt sa => Sys2Proof.Machine.execDsrl32 rd rt sa s
  | .dsra32 rd rt sa => Sys2Proof.Machine.execDsra32 rd rt sa s
  | .bltz rs offset => Sys2Proof.Machine.execBltz rs offset s
  | .bgez rs offset => Sys2Proof.Machine.execBgez rs offset s
  | .bltzl rs offset => Sys2Proof.Machine.execBltzl rs offset s
  | .bgezl rs offset => Sys2Proof.Machine.execBgezl rs offset s
  | .tgei rs imm => Sys2Proof.Machine.execTgei rs imm s
  | .tgeiu rs imm => Sys2Proof.Machine.execTgeiu rs imm s
  | .tlti rs imm => Sys2Proof.Machine.execTlti rs imm s
  | .tltiu rs imm => Sys2Proof.Machine.execTltiu rs imm s
  | .teqi rs imm => Sys2Proof.Machine.execTeqi rs imm s
  | .tnei rs imm => Sys2Proof.Machine.execTnei rs imm s
  | .bltzal rs offset => Sys2Proof.Machine.execBltzal rs offset s
  | .bgezal rs offset => Sys2Proof.Machine.execBgezal rs offset s
  | .bltzall rs offset => Sys2Proof.Machine.execBltzall rs offset s
  | .bgezall rs offset => Sys2Proof.Machine.execBgezall rs offset s
  | .j target => Sys2Proof.Machine.execJ target s
  | .jal target => Sys2Proof.Machine.execJal target s
  | .beq rs rt offset => Sys2Proof.Machine.execBeq rs rt offset s
  | .bne rs rt offset => Sys2Proof.Machine.execBne rs rt offset s
  | .blez rs offset => Sys2Proof.Machine.execBlez rs offset s
  | .bgtz rs offset => Sys2Proof.Machine.execBgtz rs offset s
  | .addi rt rs imm => Sys2Proof.Machine.execAddi rt rs imm s
  | .addiu rt rs imm => Sys2Proof.Machine.execAddiu rt rs imm s
  | .slti rt rs imm => Sys2Proof.Machine.execSlti rt rs imm s
  | .sltiu rt rs imm => Sys2Proof.Machine.execSltiu rt rs imm s
  | .andi rt rs imm => Sys2Proof.Machine.execAndi rt rs imm s
  | .ori rt rs imm => Sys2Proof.Machine.execOri rt rs imm s
  | .xori rt rs imm => Sys2Proof.Machine.execXori rt rs imm s
  | .lui rt imm => Sys2Proof.Machine.execLui rt imm s
  | .mfc0 rt rd => Sys2Proof.Machine.execMfc0 rt rd s
  | .dmfc0 rt rd => Sys2Proof.Machine.execDmfc0 rt rd s
  | .mtc0 rt rd => Sys2Proof.Machine.execMtc0 rt rd s
  | .dmtc0 rt rd => Sys2Proof.Machine.execDmtc0 rt rd s
  | .tlbr => Sys2Proof.Machine.execTlbr s
  | .tlbwi => Sys2Proof.Machine.execTlbwi s
  | .tlbwr => Sys2Proof.Machine.execTlbwr s
  | .tlbp => Sys2Proof.Machine.execTlbp s
  | .eret => Sys2Proof.Machine.execEret s
  | .cop1 body => Sys2Proof.Machine.execCop1 body s
  | .cop2 body => Sys2Proof.Machine.execCop2 body s
  | .beql rs rt offset => Sys2Proof.Machine.execBeql rs rt offset s
  | .bnel rs rt offset => Sys2Proof.Machine.execBnel rs rt offset s
  | .blezl rs offset => Sys2Proof.Machine.execBlezl rs offset s
  | .bgtzl rs offset => Sys2Proof.Machine.execBgtzl rs offset s
  | .daddi rt rs imm => Sys2Proof.Machine.execDaddi rt rs imm s
  | .daddiu rt rs imm => Sys2Proof.Machine.execDaddiu rt rs imm s
  | .ldl rt offset base => Sys2Proof.Machine.execLdl rt offset base s
  | .ldr rt offset base => Sys2Proof.Machine.execLdr rt offset base s
  | .lb rt offset base => Sys2Proof.Machine.execLb rt offset base s
  | .lh rt offset base => Sys2Proof.Machine.execLh rt offset base s
  | .lwl rt offset base => Sys2Proof.Machine.execLwl rt offset base s
  | .lw rt offset base => Sys2Proof.Machine.execLw rt offset base s
  | .lbu rt offset base => Sys2Proof.Machine.execLbu rt offset base s
  | .lhu rt offset base => Sys2Proof.Machine.execLhu rt offset base s
  | .lwr rt offset base => Sys2Proof.Machine.execLwr rt offset base s
  | .lwu rt offset base => Sys2Proof.Machine.execLwu rt offset base s
  | .sb rt offset base => Sys2Proof.Machine.execSb rt offset base s
  | .sh rt offset base => Sys2Proof.Machine.execSh rt offset base s
  | .swl rt offset base => Sys2Proof.Machine.execSwl rt offset base s
  | .sw rt offset base => Sys2Proof.Machine.execSw rt offset base s
  | .sdl rt offset base => Sys2Proof.Machine.execSdl rt offset base s
  | .sdr rt offset base => Sys2Proof.Machine.execSdr rt offset base s
  | .swr rt offset base => Sys2Proof.Machine.execSwr rt offset base s
  | .ll rt offset base => Sys2Proof.Machine.execLl rt offset base s
  | .lld rt offset base => Sys2Proof.Machine.execLld rt offset base s
  | .ld rt offset base => Sys2Proof.Machine.execLd rt offset base s
  | .sc rt offset base => Sys2Proof.Machine.execSc rt offset base s
  | .scd rt offset base => Sys2Proof.Machine.execScd rt offset base s
  | .sd rt offset base => Sys2Proof.Machine.execSd rt offset base s
  | .cache op offset base => Sys2Proof.Machine.execCache op offset base s
  | .lwc1 rt offset base => Sys2Proof.Machine.execLwc1 rt offset base s
  | .lwc2 rt offset base => Sys2Proof.Machine.execLwc2 rt offset base s
  | .ldc1 rt offset base => Sys2Proof.Machine.execLdc1 rt offset base s
  | .ldc2 rt offset base => Sys2Proof.Machine.execLdc2 rt offset base s
  | .swc1 rt offset base => Sys2Proof.Machine.execSwc1 rt offset base s
  | .swc2 rt offset base => Sys2Proof.Machine.execSwc2 rt offset base s
  | .sdc1 rt offset base => Sys2Proof.Machine.execSdc1 rt offset base s
  | .sdc2 rt offset base => Sys2Proof.Machine.execSdc2 rt offset base s

end Sys2Proof.Machine
end

