-- ==== Sys2Proof/Machine/Fetch.lean ====
section
/-! DEFINITION. The instruction cycle of the Execution Core: the fetch (20_memory.md R79), the order of checks (60_exceptions.md R284) and
one step (10_state.md R31), and where the next instruction is fetched. -/

namespace Sys2Proof.Machine

/-- Whether the bus serves a fetch from a region (R79). -/
def fetchable : RegionKind → Bool
  | .mi | .vi | .external | .refuse => false
  | .ram | .spMem | .cartRom | .pifRom | .unmapped => true

/-- The bus part of a fetch at a physical address (R79). -/
def fetchAt (pa : Word) (cached : Bool) (s : State) : Except Refusal (Word × State) :=
  if fetchable (regionKind s.params pa) then
    match cacheCheck pa .fetch cached s with
    | .ok s' =>
      match physRead s' pa .word with
      | .ok (v, s'') => .ok (low32 v, s'')
      | .error r => .error r
    | .error r => .error r
  else .error .fetchFromDevice

/-- `Fetch(pc)` (R79): a misaligned pc raises Address Error. -/
def fetch (s : State) : Res (Word × State) :=
  if s.pc.extractLsb' 0 2 ≠ 0 then .error (.raise (.addressError false s.pc) s)
  else
    match translate s.pc .fetch s with
    | .ok (pa, cached) => orRefuse (fetchAt pa cached s)
    | .error e => .error e

/-- The start of every step (10_state.md R31): the cycle counter and the hazard counters; no exception is reported yet. -/
def beginStep (s : State) : State :=
  { hazardAge s with cycles := s.cycles + BitVec.ofNat 64 s.params.cpi, stepFault := none }

/-- A reserved word (60_exceptions.md R284, 30_encoding.md R115): CpU when its primary opcode is 16 and CP0 is not usable, else RI. -/
def execReserved (cop0 : Bool) (s : State) : Out :=
  if cop0 && !cp0Usable s then raiseIn s (.cpU 0) else raiseIn s .ri

/-- `Execute(inst)` (60_exceptions.md R284), after the delay-slot check of 10_state.md R31. -/
def execDecoded (d : Decode.Decoded) (s : State) : Out :=
  if s.inDelaySlot && d.isControl then refuseWith .branchInDelaySlot
  else
    match d with
    | .instr i => exec i s
    | .nonzeroReserved _ => refuseWith .nonzeroReservedField
    | .reserved cop0 => execReserved cop0 s
    | .unmodelled => refuseWith .unmodelledInstruction

/-- `Step(ctx)` (10_state.md R31). -/
def instructionStep (s : State) : Out :=
  match fetch (beginStep s) with
  | .ok (w, s') => execDecoded (Decode.decode w) s'
  | .error (.raise e s') => raiseIn s' e
  | .error (.refuse r) => refuseWith r

/-! ## Placing an instruction where the next step fetches -/

/-- Memory with a word stored big-endian at a physical address. -/
def storeWord (m : Memory) (pa : Word) (w : Word) : Memory := m.writeBytes pa.toNat (Decode.bytesOfWord w)

/-- The state with a word in the storage of the region of a physical address: in the PIF ROM, P_PIF_ROM becomes present; in the
cartridge window, the image becomes long enough to hold it (log entry 8). -/
def placeWord (s : State) (pa : Word) (w : Word) : State :=
  match regionKind s.params pa with
  | .ram => { s with mem := storeWord s.mem pa w }
  | .spMem => { s with mem := storeWord s.mem pa w }
  | .cartRom => { s with mem := storeWord s.mem pa w, romLen := max s.romLen (pa.toNat - cartBase + 4) }
  | .pifRom => { s with mem := storeWord s.mem pa w, pifPresent := true }
  | .mi | .vi | .external | .unmapped | .refuse => s

/-- The state with a word where the next step fetches, the core running (log entry 8). -/
def placeFetchWord (s : State) (w : Word) : State :=
  let s := { s with core := .running, shouldRun := true }
  match translate s.pc .fetch s with
  | .ok (pa, _) => placeWord s pa w
  | .error _ => s

end Sys2Proof.Machine
end

