-- ==== Sys2Proof/Machine/Scheduler.lean ====
section
/-! DEFINITION. The Scheduler (70_reset_and_hazards.md R328): frames, the device tick (60_exceptions.md R313), the external agents
(20_memory.md R90), and one step of the machine as the scheduler makes it (log entry 6). -/

namespace Sys2Proof.Machine

/-! ## Refusals of the scheduler (00_scope.md R18) -/

/-- What an operation of the scheduler ends with: a state, or a refusal with the state that bears its mark (log entry 14). -/
abbrev Run := Except (Refusal × State) State

/-- A refused operation on `s` leaves the mark on `s`: what had finished before it stands. -/
def orMark (s : State) : Except Refusal State → Run
  | .ok t => .ok t
  | .error r => .error (r, s)

/-! ## The external agents (20_memory.md R90, R101, 60_exceptions.md R301; log entries 5 and 25) -/

/-- The MI bits the external agents may change: SP, SI, AI, PI and DP. -/
def externalBits : BitVec 6 := 0b110111

/-- mi_intr after the external agents act: their bits as they give them, the VI bit unchanged. -/
def externalIntr (old given : BitVec 6) : BitVec 6 := (old &&& ~~~externalBits) ||| (given &&& externalBits)

/-- Whether the external agents may write a physical address: RDRAM, SP DMEM or SP IMEM. -/
def externallyWritable (p : Params) (a : Nat) : Bool :=
  decide (a < 2 ^ 32) &&
  match regionKind p (BitVec.ofNat 32 a) with
  | .ram | .spMem => true
  | .external | .mi | .vi | .cartRom | .pifRom | .unmapped | .refuse => false

/-- The checker for an external write to a byte (R101). -/
def externalCheck (a : Nat) (c : CacheSets) : Except Refusal CacheSets :=
  let pa := BitVec.ofNat 32 a
  if dataLine pa ∈ c.dcDirty then .error .cacheState
  else
    let c := if dataLine pa ∈ c.dcPresent then { c with dcStale := setAdd (dataLine pa) c.dcStale } else c
    .ok (if instrLine pa ∈ c.icPresent then { c with icStale := setAdd (instrLine pa) c.icStale } else c)

/-- The bytes the external agents write. -/
def externalStores : List Host.Cell → State → Except Refusal State
  | [], s => .ok s
  | (a, v) :: rest, s =>
    if externallyWritable s.params a then
      if s.params.cacheCheck then
        match externalCheck a s.cache with
        | .ok c => externalStores rest { s with mem := s.mem.write a v, cache := c }
        | .error r => .error r
      else externalStores rest { s with mem := s.mem.write a v }
    else externalStores rest s

/-- What the external agents do at a boundary or a tick: nothing until a store has reached an External region. -/
def externalAgents (s : State) : Run :=
  if s.extActive then
    orMark s (externalStores (Config.extWrites s.draws)
      { s with mi := { s.mi with intr := externalIntr s.mi.intr (Config.extIntr s.draws) }, draws := s.draws + 1 })
  else .ok s

/-! ## The tick (60_exceptions.md R313) -/

/-- VITick then TimerTick. -/
def tickDevices (elapsed : Nat) (s : State) : State :=
  let (vi, mi) := viTick s.params elapsed s.vi s.mi
  let (cp0, timer) := timerTick s.params elapsed s.cp0 s.timer
  { s with vi := vi, mi := mi, cp0 := cp0, timer := timer }

/-- `DevTick(elapsed)`: nothing while the refusal mark is set; the external agents act at the tick, after the devices (log entry 5). -/
def devTick (elapsed : Nat) (s : State) : Run :=
  if s.refused = none then externalAgents (tickDevices elapsed s) else .ok s

/-! ## Frames (R328) -/

/-- The start of a frame: the input is latched, a stop is observed, the frame's counters are cleared. -/
def beginFrame (s : State) : State :=
  { s with
    inputMask := s.pendingInput.getD s.inputMask
    pendingInput := none
    core := if s.core = .running && !s.shouldRun then .halted else s.core
    frame := { s.frame with open_ := true, fc := 0, ticked := 0, faulted := false } }

/-- The state in which a step is due: a frame is begun when none is open. -/
def openFrame (s : State) : State := if s.frame.open_ then s else beginFrame s

/-- Whether the frame runs another step (10_state.md R65, R328). -/
def canStep (s : State) : Bool :=
  decide (s.core = .running) && decide (s.refused = none) && decide (s.frame.fc < s.params.budget)

/-- The result of the frame in progress (R329). -/
def frameResult (s : State) : FrameResult := { faulted := s.frame.faulted, cycles := s.frame.fc, refused := s.refused }

/-- The frame is closed and its result recorded. -/
def closeFrame (s : State) : State := { s with frame := { s.frame with open_ := false, last := some (frameResult s) } }

/-- The end of a frame: the devices tick for the cycles not yet ticked, then interrupts are checked. The external agents act in the
tick, after the devices and before the check (log entry 5); refused there, the mark stands on the ticked state (log entry 14). -/
def endFrame (s : State) : Run := do
  let s ← devTick (s.frame.fc - s.frame.ticked) s
  return closeFrame (interruptCheck s)

/-- The frame's account of a step that has just ended (R328). -/
def countStep (s : State) : State :=
  { s with frame := { s.frame with fc := s.frame.fc + s.params.cpi, faulted := s.frame.faulted || s.stepFault.isSome } }

/-- With P_GRANULARITY = Step, the tick and the interrupt check after a step. The external agents act in the tick, after the devices
and before the check (log entry 5); refused there, the mark stands on the ticked state (log entry 14). -/
def stepTick (s : State) : Run :=
  match s.params.granularity with
  | .frame => .ok s
  | .step => do
    let s ← devTick s.params.cpi s
    return interruptCheck { s with frame := { s.frame with ticked := s.frame.fc } }

/-- The end of the frame when no further step is due. -/
def endIfDone (s : State) : Run := if canStep s then .ok s else endFrame s

/-- What the scheduler does after a step that was not refused. The external agents' action at the boundary after this step, between
the tick and check and the next step, is the one `runStep` makes before that next step (log entry 5). -/
def afterStep (s : State) : Run := do
  let s ← stepTick (countStep s)
  endIfDone s

/-- The step that is due in an open frame: the external agents act at the boundary before it, after the last tick and interrupt check
(log entry 5). A refused step leaves the mark on the state before it, in which the agents have acted (log entry 14). -/
def runStep (s : State) : Run := do
  let s ← externalAgents s
  match instructionStep s with
  | .next t => afterStep t
  | .fault f => nomatch f
  | .refused r => .error (r, s)

/-- One operation of the scheduler: with the refusal mark set, nothing (10_state.md R64); else the next step of the frame in progress,
begun first when none is open; an empty frame when the core is not running (R328). -/
def schedulerRun (s : State) : Run :=
  match s.refused with
  | some r => .error (r, s)
  | none => if canStep (openFrame s) then runStep (openFrame s) else endFrame (openFrame s)

/-- The outcome of a scheduler operation. -/
def settle : Run → Out
  | .ok s => .next s
  | .error (r, _) => refuseWith r

/-- One step of the machine (log entry 6). -/
def schedulerStep (s : State) : Out := settle (schedulerRun s)

end Sys2Proof.Machine
end

