-- ==== Sys2Proof/Machine/Step.lean ====
section
/-! DEFINITION. The step function of the machine and the state with an instruction where it fetches next. -/

namespace Sys2Proof.Machine

/-- One step (10_state.md R31, 70_reset_and_hazards.md R328). -/
def step (s : State) : Host.Outcome State Fault Refusal := schedulerStep s

/-- `s` with the instruction word `w` stored where `step` fetches its next instruction; every instruction is one 32-bit word, so the
number of bits given is not needed (30_encoding.md R102; log entry 8). -/
def State.withFetchWord (s : State) (_nbits w : Nat) : State := placeFetchWord s (BitVec.ofNat 32 w)

end Sys2Proof.Machine
end

