-- ==== Sys2Proof/Machine/Asm.lean ====
section
/-! DEFINITION. The assembler's conventions that have a meaning of their own: register names (10_state.md R26), label operands
(30_encoding.md R120) and pseudo-instructions (R121). None of it is architected (log entry 27). -/

namespace Sys2Proof.Machine.Asm

/-- The conventional names of r0 to r31 (10_state.md R26). -/
def registerNames : List String :=
  ["zero", "at", "v0", "v1", "a0", "a1", "a2", "a3", "t0", "t1", "t2", "t3", "t4", "t5", "t6", "t7",
   "s0", "s1", "s2", "s3", "s4", "s5", "s6", "s7", "t8", "t9", "k0", "k1", "gp", "sp", "s8", "ra"]

/-- The register of a conventional name; `fp` is r30 too. -/
def registerOfName (name : String) : Option RegIdx :=
  if name = "fp" then some 30 else (registerNames.idxOf? name).map (BitVec.ofNat 5)

/-- The offset field of a branch at `pc` to `label` (R120): none when the distance is not a multiple of 4 or is out of range. -/
def branchOffset (pc label : DWord) : Option (BitVec 16) :=
  let d := (label - (pc + 4)).toInt
  if d % 4 = 0 ∧ -32768 ≤ d / 4 ∧ d / 4 ≤ 32767 then some (BitVec.ofInt 16 (d / 4)) else none

/-- The target field label[27:2] of a jump at `pc` to `label` (R120): none when the label is in another 256 MiB region than the delay
slot. R120 asks nothing of label[1:0]; they are not looked at (DEDUCED, log entry 27). -/
def jumpField (pc label : DWord) : Option (BitVec 26) :=
  if label.extractLsb' 28 36 = (pc + 4).extractLsb' 28 36 then some (label.extractLsb' 2 26) else none

/-- The pseudo-instructions of R121. -/
inductive Pseudo where
  | nop
  | move (rd rs : RegIdx)
  | clear (rd : RegIdx)
  | not (rd rs : RegIdx)
  | neg (rd rs : RegIdx)
  | negu (rd rs : RegIdx)
  | dneg (rd rs : RegIdx)
  | dnegu (rd rs : RegIdx)
  | li (rt : RegIdx) (i : Int)
  | la (rt : RegIdx) (addr : Int)
  | b (label : DWord)
  | bal (label : DWord)
  | beqz (rs : RegIdx) (label : DWord)
  | bnez (rs : RegIdx) (label : DWord)
  | beqzl (rs : RegIdx) (label : DWord)
  | bnezl (rs : RegIdx) (label : DWord)
  | blt (rs rt : RegIdx) (label : DWord)
  | bge (rs rt : RegIdx) (label : DWord)
  | bgt (rs rt : RegIdx) (label : DWord)
  | ble (rs rt : RegIdx) (label : DWord)
  | bltu (rs rt : RegIdx) (label : DWord)
  | bgeu (rs rt : RegIdx) (label : DWord)
  | bgtu (rs rt : RegIdx) (label : DWord)
  | bleu (rs rt : RegIdx) (label : DWord)
  | subi (rt rs : RegIdx) (i : Int)
  | subiu (rt rs : RegIdx) (i : Int)
  | jalr (rs : RegIdx)
deriving DecidableEq, Repr

/-- r1, the assembler's own register. -/
def at1 : RegIdx := 1

/-- `li rt, i` (R121). -/
def loadImmediate (rt : RegIdx) (i : Int) : Option (List Instr) :=
  let w := BitVec.ofInt 32 i
  if -32768 ≤ i ∧ i ≤ 32767 then some [.addiu rt 0 (BitVec.ofInt 16 i)]
  else if 32768 ≤ i ∧ i ≤ 65535 then some [.ori rt 0 (BitVec.ofInt 16 i)]
  else if -(2 ^ 31 : Int) ≤ i ∧ i < 2 ^ 32 then
    if w.extractLsb' 0 16 = 0 then some [.lui rt (w.extractLsb' 16 16)]
    else some [.lui rt (w.extractLsb' 16 16), .ori rt rt (w.extractLsb' 0 16)]
  else none

/-- The immediate -i of `subi` and `subiu`. R121 states no range of i: none where -i is no signed 16-bit value, so i runs from -32767
to 32768 (DESIGN CHOICE, log entry 27). -/
def negatedImmediate (i : Int) : Option (BitVec 16) :=
  if -32768 ≤ -i ∧ -i ≤ 32767 then some (BitVec.ofInt 16 (-i)) else none

/-- A comparison into r1 and a branch on it, at `pc` and `pc + 4`. -/
def compareBranch (cmp : Instr) (branch : BitVec 16 → Instr) (pc label : DWord) : Option (List Instr) :=
  (branchOffset (pc + 4) label).map fun o => [cmp, branch o]

/-- The expansion of a pseudo-instruction that stands at `pc` (R121). -/
def Pseudo.expand (pc : DWord) : Pseudo → Option (List Instr)
  | .nop => some [.sll 0 0 0]
  | .move rd rs => some [.or rd rs 0]
  | .clear rd => some [.or rd 0 0]
  | .not rd rs => some [.nor rd rs 0]
  | .neg rd rs => some [.sub rd 0 rs]
  | .negu rd rs => some [.subu rd 0 rs]
  | .dneg rd rs => some [.dsub rd 0 rs]
  | .dnegu rd rs => some [.dsubu rd 0 rs]
  | .li rt i => loadImmediate rt i
  | .la rt addr => loadImmediate rt addr
  | .b label => (branchOffset pc label).map fun o => [.beq 0 0 o]
  | .bal label => (branchOffset pc label).map fun o => [.bgezal 0 o]
  | .beqz rs label => (branchOffset pc label).map fun o => [.beq rs 0 o]
  | .bnez rs label => (branchOffset pc label).map fun o => [.bne rs 0 o]
  | .beqzl rs label => (branchOffset pc label).map fun o => [.beql rs 0 o]
  | .bnezl rs label => (branchOffset pc label).map fun o => [.bnel rs 0 o]
  | .blt rs rt label => compareBranch (.slt at1 rs rt) (.bne at1 0) pc label
  | .bge rs rt label => compareBranch (.slt at1 rs rt) (.beq at1 0) pc label
  | .bgt rs rt label => compareBranch (.slt at1 rt rs) (.bne at1 0) pc label
  | .ble rs rt label => compareBranch (.slt at1 rt rs) (.beq at1 0) pc label
  | .bltu rs rt label => compareBranch (.sltu at1 rs rt) (.bne at1 0) pc label
  | .bgeu rs rt label => compareBranch (.sltu at1 rs rt) (.beq at1 0) pc label
  | .bgtu rs rt label => compareBranch (.sltu at1 rt rs) (.bne at1 0) pc label
  | .bleu rs rt label => compareBranch (.sltu at1 rt rs) (.beq at1 0) pc label
  | .subi rt rs i => (negatedImmediate i).map fun imm => [.addi rt rs imm]
  | .subiu rt rs i => (negatedImmediate i).map fun imm => [.addiu rt rs imm]
  | .jalr rs => some [.jalr 31 rs]

end Sys2Proof.Machine.Asm
end

