-- ==== Sys2Proof/Machine/HostAdapter.lean ====
section
/-! DEFINITION. The operations of the Host Adapter (70_reset_and_hazards.md R317 to R329): creation, start, stop, reset, loadImage,
setInputState, runFrame and getFramebuffer. Each acts between frames (R322). -/

namespace Sys2Proof.Machine

/-! ## Creation, start, stop and reset -/

/-- A new ExecutionContext with parameters `p` (R317). -/
def create (p : Params) : State := { State.fresh p with core := .idle, shouldRun := false }

/-- A new context with P_PIF_ROM supplied (00_scope.md R11): the first `pifSize` bytes given. -/
def withPifRom (bytes : List Byte) (s : State) : State :=
  { s with mem := s.mem.writeBytes pifBase (bytes.take pifSize), pifPresent := true }

/-- `start()` (R324). -/
def start (s : State) : State :=
  { s with shouldRun := true, core := if s.core = .idle then .running else s.core }

/-- `stop()` (R325). -/
def stop (s : State) : State := { s with shouldRun := false }

/-- Whether a physical address belongs to the cartridge ROM image or P_PIF_ROM, which survive a reset (10_state.md R71). -/
def survivesReset (p : Params) (a : Nat) : Bool :=
  decide (cartBase ≤ a ∧ a < cartBase + p.romWindow) || decide (pifBase ≤ a ∧ a < pifBase + pifSize)

/-- The memory after a reset: RDRAM, SP DMEM and SP IMEM at P_RAM_INIT, the ROMs unchanged (10_state.md R71). -/
def resetMemory (p : Params) (m : Memory) : Memory := p.ramContents ++ m.filter (fun c => survivesReset p c.1)

/-- `reset()` (R318). -/
def resetOp (s : State) : State :=
  resetDevices { State.fresh s.params with
    shouldRun := s.shouldRun
    refused := s.refused
    mem := resetMemory s.params s.mem
    romLen := s.romLen
    pifPresent := s.pifPresent
    inputMask := s.inputMask
    pendingInput := s.pendingInput
    draws := s.draws }

/-! ## Input and image -/

/-- LoadError (R323). -/
inductive LoadError where
  | empty | tooLarge
deriving DecidableEq, Repr

/-- Memory without the cartridge image. -/
def withoutImage (p : Params) (m : Memory) : Memory :=
  m.filter (fun c => !decide (cartBase ≤ c.1 ∧ c.1 < cartBase + p.romWindow))

/-- `loadImage(bytes)` (R323). -/
def loadImage (bytes : List Byte) (s : State) : Except LoadError State :=
  if bytes.length = 0 then .error .empty
  else if bytes.length > s.params.romWindow then .error .tooLarge
  else .ok { s with mem := (withoutImage s.params s.mem).writeBytes cartBase bytes, romLen := bytes.length }

/-- `setInputState(buttonMask)` (R326). -/
def setInputState (buttonMask : Nat) (s : State) : State := { s with pendingInput := some buttonMask }

/-- The buttons of the mask (R326). -/
inductive Button where
  | a | b | z | start | dUp | dDown | dLeft | dRight | l | r | cUp | cDown | cLeft | cRight
deriving DecidableEq, Repr

/-- The bit of a button (R326). -/
def Button.position : Button → Nat
  | .a => 15
  | .b => 14
  | .z => 13
  | .start => 12
  | .dUp => 11
  | .dDown => 10
  | .dLeft => 9
  | .dRight => 8
  | .l => 5
  | .r => 4
  | .cUp => 3
  | .cDown => 2
  | .cLeft => 1
  | .cRight => 0

/-- Whether a mask says that a button is pressed (R326). -/
def pressed (mask : Nat) (button : Button) : Bool := mask.testBit button.position

/-- The stick's X, bits 23:16 of the mask, a signed byte (R326). -/
def stickX (mask : Nat) : Int := (BitVec.ofNat 8 (mask / 2 ^ 16)).toInt

/-- The stick's Y, bits 31:24 of the mask, a signed byte (R326). -/
def stickY (mask : Nat) : Int := (BitVec.ofNat 8 (mask / 2 ^ 24)).toInt

/-! ## The framebuffer view (R327; log entry 16) -/

/-- `E5(c)`: a 5-bit channel widened to 8 bits. -/
def expand5 (c : BitVec 5) : BitVec 8 := (c.setWidth 8 <<< 3) ||| (c.setWidth 8 >>> 2)

/-- `RAM16(a)` and `RAM32(a)`: RDRAM read big-endian at an address aligned down to `n` bytes, 0 outside RDRAM. -/
def ramRead (s : State) (a n : Nat) : DWord :=
  let lo := a / n * n
  if lo + n ≤ s.params.rdramSize then s.mem.readBE lo n else 0

/-- The pixel 0xRRGGBBAA of a 16-bit RGBA 5551 value. -/
def pixel5551 (h : BitVec 16) : Word :=
  expand5 (h.extractLsb' 11 5) ++ expand5 (h.extractLsb' 6 5) ++ expand5 (h.extractLsb' 1 5) ++
    (if h.getLsbD 0 then (0xFF : BitVec 8) else 0)

/-- The pixel at column `x` of line `y`. -/
def pixel (s : State) (x y : Nat) : Word :=
  let type := s.vi.reg[0].extractLsb' 0 2
  let origin := (s.vi.reg[1].extractLsb' 0 24).toNat
  let i := y * (s.vi.reg[2].extractLsb' 0 12).toNat + x
  if type = 2 then pixel5551 ((ramRead s (origin + 2 * i) 2).setWidth 16)
  else if type = 3 then low32 (ramRead s (origin + 4 * i) 4)
  else 0

/-- `getFramebuffer()`: the lines of the view, top to bottom. -/
def getFramebuffer (s : State) : List (List Word) :=
  (List.range s.params.fbHeight).map fun y => (List.range s.params.fbWidth).map fun x => pixel s x y

/-! ## runFrame -/

/-- A frame cut short by a refusal (R328): the mark is set on the state the refusal leaves, and no tick or interrupt follows. Which
state that is when the external agents are refused is the model's choice (log entry 14). -/
def refuseFrame (r : Refusal) (s : State) : State := closeFrame { s with refused := some r }

/-- The steps of one frame: until the frame closes, or a step or the external agents are refused; a step that had finished before
the refusal stands, with its cycles and its fault (log entry 14). `fuel` bounds the number of steps. -/
def frameSteps : Nat → State → State
  | 0, s => s
  | fuel + 1, s =>
    match schedulerRun s with
    | .ok t => if t.frame.open_ then frameSteps fuel t else t
    | .error (r, t) => refuseFrame r t

/-- `runFrame()` (R328): P_BUDGET steps at most (R331). With the refusal mark set the frame is empty. -/
def runFrame (s : State) : State :=
  if s.refused = none then frameSteps (s.params.budget + 1) s else closeFrame (openFrame s)

/-- What `runFrame()` returns (R329): the framebuffer view at the end of the frame and the recorded result. -/
def runFrameResult (s : State) : List (List Word) × Option FrameResult :=
  (getFramebuffer (runFrame s), (runFrame s).frame.last)

end Sys2Proof.Machine
end

