-- ==== Sys2Proof/WellFormed.lean ====
section
/-! DEFINITION. The operand checks the spec makes on an instruction as syntax, whatever the state: the operand combinations whose
execution it refuses as unpredictable or undefined. Every field of `Instr` has the width of its encoding, so every instruction,
well-formed or not, has a word and decodes (log entry 23). -/

namespace Sys2Proof

/-- CACHE operations that exist (R267): cache field 0 or 1, and not the reserved operations (0, 3), (0, 7), (1, 7). -/
def legalCacheOp (op : BitVec 5) : Bool :=
  let c := op.extractLsb' 0 2
  let o := op.extractLsb' 2 3
  (c = 0 && o != 3 && o != 7) || (c = 1 && o != 7)

/-- CP0 numbers a DMTC0 may name (R260): the 64-bit and the reserved registers of R38. -/
def legalDmtc0 (rd : RegIdx) : Bool :=
  rd ∈ ([2, 3, 4, 8, 10, 14, 20, 30, 7, 21, 22, 23, 24, 25, 31] : List RegIdx)

/-- An instruction no operand of which the spec refuses in every state: JALR with rd ≠ rs and linking branches with rs ≠ 31
(R186), CACHE with an operation that exists (R267), DMTC0 to a 64-bit or reserved register (R260). -/
def Instr.wellFormed : Instr → Bool
  | .jalr rd rs => rd != rs
  | .bltzal rs _ | .bgezal rs _ | .bltzall rs _ | .bgezall rs _ => rs != 31
  | .cache op _ _ => legalCacheOp op
  | .dmtc0 _ rd => legalDmtc0 rd
  | .sll .. | .srl .. | .sra .. | .sllv .. | .srlv .. | .srav .. | .jr .. | .syscall .. | .brk .. | .sync
  | .mfhi .. | .mthi .. | .mflo .. | .mtlo .. | .dsllv .. | .dsrlv .. | .dsrav .. | .mult .. | .multu ..
  | .div .. | .divu .. | .dmult .. | .dmultu .. | .ddiv .. | .ddivu .. | .add .. | .addu .. | .sub ..
  | .subu .. | .and .. | .or .. | .xor .. | .nor .. | .slt .. | .sltu .. | .dadd .. | .daddu .. | .dsub ..
  | .dsubu .. | .tge .. | .tgeu .. | .tlt .. | .tltu .. | .teq .. | .tne .. | .dsll .. | .dsrl .. | .dsra ..
  | .dsll32 .. | .dsrl32 .. | .dsra32 .. | .bltz .. | .bgez .. | .bltzl .. | .bgezl .. | .tgei .. | .tgeiu ..
  | .tlti .. | .tltiu .. | .teqi .. | .tnei .. | .j .. | .jal .. | .beq .. | .bne .. | .blez .. | .bgtz ..
  | .addi .. | .addiu .. | .slti .. | .sltiu .. | .andi .. | .ori .. | .xori .. | .lui .. | .mfc0 ..
  | .dmfc0 .. | .mtc0 .. | .tlbr | .tlbwi | .tlbwr | .tlbp | .eret | .cop1 .. | .cop2 .. | .beql .. | .bnel ..
  | .blezl .. | .bgtzl .. | .daddi .. | .daddiu .. | .ldl .. | .ldr .. | .lb .. | .lh .. | .lwl .. | .lw ..
  | .lbu .. | .lhu .. | .lwr .. | .lwu .. | .sb .. | .sh .. | .swl .. | .sw .. | .sdl .. | .sdr .. | .swr ..
  | .ll .. | .lld .. | .ld .. | .sc .. | .scd .. | .sd .. | .lwc1 .. | .lwc2 .. | .ldc1 .. | .ldc2 ..
  | .swc1 .. | .swc2 .. | .sdc1 .. | .sdc2 .. => true

end Sys2Proof
end

