-- ==== Sys2Proof/Safety.lean ====
section
/-! DEFINITION. What statements about the machine speak of: the invariant every step keeps, what each instruction may write, and when an
access reaches plain RAM. -/

namespace Sys2Proof.Machine

/-! ## The invariant -/

/-- The bits of Status that can be 1 (10_state.md R49). -/
def statusBits : Word := 0xFF57FFFF

/-- The bits of Cause that are stored (10_state.md R50): BD, CE, IP[1:0] and ExcCode. -/
def causeBits : Word := 0xB000037C

/-- The fields of the CP0 registers that read as zero or are fixed hold their values (10_state.md R39 to R57). -/
def Cp0.fieldsLegal (c : Cp0) : Prop :=
  c.index &&& ~~~0x8000003F = 0 ∧ c.entryLo0 &&& ~~~0x03FFFFFF = 0 ∧ c.entryLo1 &&& ~~~0x03FFFFFF = 0 ∧
  c.context &&& 0xF = 0 ∧ c.pageMask &&& ~~~0x01FFE000 = 0 ∧ c.wired &&& ~~~0x3F = 0 ∧
  c.entryHi &&& ~~~0xC00000FFFFFFE0FF = 0 ∧ c.status &&& ~~~statusBits = 0 ∧ c.cause &&& ~~~causeBits = 0 ∧
  c.config &&& 0xF0FFFFF0 = 0x0006E460 ∧ c.watchLo &&& 4 = 0 ∧ c.watchHi &&& ~~~0xF = 0 ∧
  c.xContext &&& 0xF = 0 ∧ c.pErr &&& ~~~0xFF = 0 ∧ c.tagLo &&& ~~~0x0FFFFFC0 = 0

/-- Status.KSU is one of the three modes (10_state.md R49). -/
def Cp0.modeLegal (c : Cp0) : Prop := c.status.extractLsb' 3 2 ≠ 3

/-- The counters stay in the ranges the spec gives them (10_state.md R66, R67, 60_exceptions.md R309). -/
def countersInRange (s : State) : Prop :=
  s.hiReadAge ≤ hazardWindow ∧ s.loReadAge ≤ hazardWindow ∧ s.timer.countFrac < s.params.countDiv ∧
  s.vi.cycles.toNat < s.params.budget

/-- Every TLB entry holds a legal MASK (20_memory.md R95). -/
def tlbMasksLegal (s : State) : Prop := ∀ i : Fin 32, legalMask (s.tlb[i]).mask = true

/-- The frame in progress has ticked no more than it has run, and its last step began within its budget (70_reset_and_hazards.md
R328; log entry 6). -/
def frameInRange (s : State) : Prop := s.frame.ticked ≤ s.frame.fc ∧ s.frame.fc < s.params.budget + s.params.cpi

/-- What every step keeps. -/
structure Inv (s : State) : Prop where
  memory : s.mem.wf = true
  fields : s.cp0.fieldsLegal
  mode : s.cp0.modeLegal
  counters : countersInRange s
  tlb : tlbMasksLegal s
  frame : frameInRange s
  mark : s.refused = none
  params : s.params.legal

/-! ## What an instruction may write -/

/-- The general registers an instruction may write: its destination, or r31 of a linking instruction. -/
def destRegs : Instr → List RegIdx
  | .sll rd .. | .srl rd .. | .sra rd .. | .sllv rd .. | .srlv rd .. | .srav rd .. | .jalr rd _ | .mfhi rd | .mflo rd
  | .dsllv rd .. | .dsrlv rd .. | .dsrav rd .. | .add rd .. | .addu rd .. | .sub rd .. | .subu rd .. | .and rd ..
  | .or rd .. | .xor rd .. | .nor rd .. | .slt rd .. | .sltu rd .. | .dadd rd .. | .daddu rd .. | .dsub rd ..
  | .dsubu rd .. | .dsll rd .. | .dsrl rd .. | .dsra rd .. | .dsll32 rd .. | .dsrl32 rd .. | .dsra32 rd .. => [rd]
  | .addi rt .. | .addiu rt .. | .slti rt .. | .sltiu rt .. | .andi rt .. | .ori rt .. | .xori rt .. | .lui rt _
  | .mfc0 rt _ | .dmfc0 rt _ | .daddi rt .. | .daddiu rt .. | .ldl rt .. | .ldr rt .. | .lb rt .. | .lh rt ..
  | .lwl rt .. | .lw rt .. | .lbu rt .. | .lhu rt .. | .lwr rt .. | .lwu rt .. | .ll rt .. | .lld rt .. | .ld rt ..
  | .sc rt .. | .scd rt .. => [rt]
  | .jal _ | .bltzal .. | .bgezal .. | .bltzall .. | .bgezall .. => [31]
  | .jr _ | .syscall _ | .brk _ | .sync | .mthi _ | .mtlo _ | .mult .. | .multu .. | .div .. | .divu .. | .dmult ..
  | .dmultu .. | .ddiv .. | .ddivu .. | .tge .. | .tgeu .. | .tlt .. | .tltu .. | .teq .. | .tne .. | .bltz ..
  | .bgez .. | .bltzl .. | .bgezl .. | .tgei .. | .tgeiu .. | .tlti .. | .tltiu .. | .teqi .. | .tnei .. | .j _
  | .beq .. | .bne .. | .blez .. | .bgtz .. | .mtc0 .. | .dmtc0 .. | .tlbr | .tlbwi | .tlbwr | .tlbp | .eret
  | .cop1 _ | .cop2 _ | .beql .. | .bnel .. | .blezl .. | .bgtzl .. | .sb .. | .sh .. | .swl .. | .sw .. | .sdl ..
  | .sdr .. | .swr .. | .sd .. | .cache .. | .lwc1 .. | .lwc2 .. | .ldc1 .. | .ldc2 .. | .swc1 .. | .swc2 ..
  | .sdc1 .. | .sdc2 .. => []

/-- Whether an instruction may write HI (41_muldiv.md). -/
def writesHi (i : Instr) : Bool :=
  i matches .mult .. | .multu .. | .div .. | .divu .. | .dmult .. | .dmultu .. | .ddiv .. | .ddivu .. | .mthi ..

/-- Whether an instruction may write LO (41_muldiv.md). -/
def writesLo (i : Instr) : Bool :=
  i matches .mult .. | .multu .. | .div .. | .divu .. | .dmult .. | .dmultu .. | .ddiv .. | .ddivu .. | .mtlo ..

/-- Width, offset and base of the instructions that store (43_loadstore.md section 4 to 6). -/
def storeForm : Instr → Option (Width × BitVec 16 × RegIdx)
  | .sb _ offset base => some (.byte, offset, base)
  | .sh _ offset base => some (.half, offset, base)
  | .sw _ offset base | .swl _ offset base | .swr _ offset base | .sc _ offset base => some (.word, offset, base)
  | .sd _ offset base | .sdl _ offset base | .sdr _ offset base | .scd _ offset base => some (.dword, offset, base)
  | _ => none

/-- Whether an instruction is a CP0 move, a TLB operation, ERET or CACHE: those that `RequireCP0()` guards (44_system.md R238). -/
def privileged (i : Instr) : Bool :=
  i matches .mfc0 .. | .mtc0 .. | .dmfc0 .. | .dmtc0 .. | .tlbr | .tlbwi | .tlbwr | .tlbp | .eret | .cache ..

/-! ## Accesses that reach plain RAM -/

/-- A data access at virtual address `va` reaches RAM at physical address `pa`: it translates, no watch matches, the cache checker is
off, and the region is RAM (20_memory.md R76, R77). -/
def reachesRam (s : State) (store : Bool) (va : DWord) (pa : Word) : Prop :=
  (∃ cached, translate va (if store then .store else .load) s = .ok (pa, cached)) ∧
  watchMatches pa store s = false ∧ s.params.cacheCheck = false ∧ regionKind s.params pa = .ram

/-- A data access at virtual address `va` goes to the bus at physical address `pa`, in the state `t` that the cache checker leaves: it
translates, no watch matches, and the checker lets it pass (20_memory.md R76, R77, R101). -/
def reachesBus (s : State) (store : Bool) (va : DWord) (pa : Word) (t : State) : Prop :=
  ∃ cached, translate va (if store then .store else .load) s = .ok (pa, cached) ∧ watchMatches pa store s = false ∧
    cacheCheck pa (if store then .store else .load) cached s = .ok t

/-- HI and LO may be written: neither was read within the two steps before (70_reset_and_hazards.md R334). -/
def hiLoFree (s : State) : Prop := s.hiReadAge = 0 ∧ s.loReadAge = 0

/-- The result of the HI/LO pair of an instruction. -/
def withHiLo (s : State) (hi lo : DWord) : State := { s with hi := hi, lo := lo }

end Sys2Proof.Machine
end

