-- ==== Sys2Proof/Certificates/Slice0/Obligations.lean ====
section
/-! DEFINITION. The statements for the provers. Each docstring names the rule of spec/ it comes from. -/

open Sys2Proof Sys2Proof.Machine

/-! ## Decoding -/

/-- Decode and encode agree (30_encoding.md R104, R108): the word of an instruction, with every operand at every value its field
holds, decodes to that instruction. -/
def Obligations.DecodeOfEncode : Prop := ∀ i : Instr, Decode.decode (Decode.encode i) = .instr i

/-- Each word has one meaning (R108, R114): a word that decodes to an instruction is that instruction's word. -/
def Obligations.EncodeOfDecode : Prop :=
  ∀ (w : Word) (i : Instr), Decode.decode w = .instr i → Decode.encode i = w

/-- The table of known encodings of R119, with its kinds. -/
def Obligations.KnownWordsDecode : Prop :=
  Decode.decode 0x00000000 = .instr (.sll 0 0 0) ∧ Decode.decode 0x24080005 = .instr (.addiu 8 0 5) ∧
  Decode.decode 0x2129FFFF = .instr (.addi 9 9 0xFFFF) ∧ Decode.decode 0x11090003 = .instr (.beq 8 9 3) ∧
  Decode.decode 0x1000FFFF = .instr (.beq 0 0 0xFFFF) ∧ Decode.decode 0x08000100 = .instr (.j 0x100) ∧
  Decode.decode 0x03E00008 = .instr (.jr 31) ∧ Decode.decode 0x01095020 = .instr (.add 10 8 9) ∧
  Decode.decode 0x8D090004 = .instr (.lw 9 4 8) ∧ Decode.decode 0x40806000 = .instr (.mtc0 0 12) ∧
  Decode.decode 0x42000018 = .instr .eret ∧ Decode.decode 0x70000000 = .reserved false ∧
  Decode.decode 0x00000001 = .reserved false ∧ Decode.decode 0x41000000 = .unmodelled ∧
  Decode.decode 0x00200000 = .nonzeroReserved (.sll 0 0 0) ∧
  [0x00000000, 0x24080005, 0x2129FFFF, 0x11090003, 0x1000FFFF, 0x08000100, 0x03E00008, 0x01095020, 0x8D090004,
    0x40806000, 0x42000018, 0x70000000, 0x00000001, 0x41000000, 0x00200000].map
      (fun w => ((Decode.record w).op, (Decode.record w).kind)) =
  [("SLL", .shift), ("ADDIU", .arithmetic), ("ADDI", .arithmetic), ("BEQ", .branch), ("BEQ", .branch), ("J", .jump),
    ("JR", .jump), ("ADD", .arithmetic), ("LW", .load), ("MTC0", .system), ("ERET", .system), ("RESERVED", .reserved),
    ("RESERVED", .reserved), ("BC0", .unmodelled), ("SLL", .shift)] ∧
  (Decode.record 0x00200000).rs = 1 ∧ (Decode.record 0x00200000).mbzOk = false ∧ (Decode.record 0x00000000).mbzOk = true

/-- The reserved words are those that the opcode maps send to an RI cell (R109 to R112, R115), and the unmodelled ones the BC0 group
(R116). The flag of a reserved word says whether its primary opcode is 16, on which Coprocessor Unusable or Reserved Instruction
depends (60_exceptions.md R284). -/
def Obligations.ReservedWords : Prop :=
  ∀ w : Word,
    (∀ c, Decode.decode w = .reserved c → c = decide (Decode.opF w = 16)) ∧
    ((∃ c, Decode.decode w = .reserved c) ↔
      Decode.opF w ∈ ([19, 28, 29, 30, 31, 51, 59] : List (BitVec 6)) ∨
      (Decode.opF w = 0 ∧ Decode.functF w ∈ ([1, 5, 10, 11, 14, 21, 40, 41, 53, 55, 57, 61] : List (BitVec 6))) ∨
      (Decode.opF w = 1 ∧ Decode.rtF w ∉ ([0, 1, 2, 3, 8, 9, 10, 11, 12, 14, 16, 17, 18, 19] : List (BitVec 5))) ∨
      (Decode.opF w = 16 ∧ Decode.coF w = 1 ∧ Decode.functF w ∉ ([1, 2, 6, 8, 24] : List (BitVec 6))) ∨
      (Decode.opF w = 16 ∧ Decode.rsF w ∈ ([2, 3, 6, 7, 9, 10, 11, 12, 13, 14, 15] : List (BitVec 5)))) ∧
    (Decode.decode w = .unmodelled ↔ Decode.opF w = 16 ∧ Decode.rsF w = 8)

/-- What is executed for each decoded word, in the order of 60_exceptions.md R284, after the delay-slot check of 10_state.md R31. -/
def Obligations.ExecuteByDecoding : Prop :=
  ∀ (d : Decode.Decoded) (s : State),
    (s.inDelaySlot = true → d.isControl = true → execDecoded d s = .refused .branchInDelaySlot) ∧
    ((s.inDelaySlot = false ∨ d.isControl = false) →
      (d = .unmodelled → execDecoded d s = .refused .unmodelledInstruction) ∧
      (∀ i, d = .nonzeroReserved i → execDecoded d s = .refused .nonzeroReservedField) ∧
      (∀ i, d = .instr i → execDecoded d s = exec i s) ∧
      (d = .reserved false → execDecoded d s = .next (takeException .ri s)) ∧
      (d = .reserved true →
        execDecoded d s = .next (takeException (if cp0Usable s then .ri else .cpU 0) s)))

/-! ## The step -/

/-- A step runs the decoded instruction (10_state.md R31, 70_reset_and_hazards.md R328): at a state where a step is due, after what the
external agents do at the boundary before it, and the fetch gives the word of `i`, the step is exec of `i` at the fetched state, with
the scheduler's work after it. While no external agent is active nothing happens before the step. That frames are steps'
bookkeeping, and where in the boundary the agents act, is the model's choice (log entries 5 and 6). -/
def Obligations.StepRunsDecoded : Prop :=
  (∀ (s u s' : State) (w : Word) (i : Instr),
    s.refused = none → canStep (openFrame s) = true → externalAgents (openFrame s) = .ok u →
    fetch (beginStep u) = .ok (w, s') →
    Decode.decode w = .instr i → (s'.inDelaySlot = false ∨ i.isControl = false) →
    step s = match exec i s' with
      | .next t => settle (afterStep t)
      | .fault f => .fault f
      | .refused r => .refused r) ∧
  (∀ s : State, s.extActive = false → externalAgents (openFrame s) = .ok (openFrame s))

/-- The account of a step (10_state.md R31, 70_reset_and_hazards.md R328): at its start P_CPI cycles are counted and the hazard counters count
down; at its end pc, next_pc and in_delay_slot follow the outcome; inside a frame that is not used up, with P_GRANULARITY = Frame,
nothing else happens after the instruction. The frame fields and stepFault are the model's own (log
entries 6 and 13). -/
def Obligations.StepAccount : Prop :=
  (∀ s, beginStep s = { s with
      cycles := s.cycles + BitVec.ofNat 64 s.params.cpi, hiReadAge := s.hiReadAge - 1, loReadAge := s.loReadAge - 1, stepFault := none }) ∧
  (∀ (s : State) (t : DWord),
    advance .next s = { s with pc := s.nextPc, nextPc := s.nextPc + 4, inDelaySlot := false } ∧
    advance (.taken t) s = { s with pc := s.nextPc, nextPc := t, inDelaySlot := true } ∧
    advance .notTaken s = { s with pc := s.nextPc, nextPc := s.nextPc + 4, inDelaySlot := true } ∧
    advance .annul s = { s with pc := s.nextPc + 4, nextPc := s.nextPc + 8, inDelaySlot := false } ∧
    advance .redirected s = s) ∧
  (∀ t, t.params.granularity = .frame → t.core = .running → t.refused = none →
    t.frame.fc + t.params.cpi < t.params.budget →
    afterStep t = .ok { t with
      frame := { t.frame with fc := t.frame.fc + t.params.cpi, faulted := t.frame.faulted || t.stepFault.isSome } })

/-- Fetch (20_memory.md R79, R82, 60_exceptions.md R285, R288, R289): a misaligned pc raises Address Error, with which the step ends at
the general vector with BadVAddr and EPC the pc and no register or memory written. For an aligned pc: an exception of its
translation (Address Error of a segment, TLB Refill, TLB Invalid, and no other) is taken with its code and vector, EPC and BadVAddr,
and a refusal of it refuses the step; a device region is refused; every other region answers the word its bus read gives, RAM and SP
memory the big-endian word stored there, the image and the PIF ROM theirs or P_OPEN_BUS where they have none, an unmapped address
P_OPEN_BUS; with the cache checker on, that read comes after the checker, which refuses the fetch or updates its own sets; whatever
refuses the fetch refuses the step. -/
def Obligations.FetchRules : Prop :=
  ∀ s : State,
    (s.pc.extractLsb' 0 2 ≠ 0 → fetch s = .error (.raise (.addressError false s.pc) s)) ∧
    (s.pc.extractLsb' 0 2 ≠ 0 → statusEXL s = false → s.inDelaySlot = false →
      ∃ t, instructionStep s = .next t ∧ t.stepFault = some .adEL ∧ t.cp0.badVAddr = s.pc ∧ t.cp0.epc = s.pc ∧
        t.cp0.cause.extractLsb' 2 5 = 4 ∧ t.cp0.cause.getLsbD 31 = false ∧ statusEXL t = true ∧
        t.pc = (if statusBEV s then 0xFFFFFFFFBFC00380 else 0xFFFFFFFF80000180) ∧
        t.nextPc = t.pc + 4 ∧ t.inDelaySlot = false ∧ t.regs = s.regs ∧ t.mem = s.mem) ∧
    (s.pc.extractLsb' 0 2 = 0 →
      (∀ e, Machine.translate s.pc .fetch s = .error e → fetch s = .error e) ∧
      (∀ e u, Machine.translate s.pc .fetch s = .error (.raise e u) →
        u = s ∧ e ∈ [Exc.addressError false s.pc, .tlbRefill false s.pc, .tlbInvalid false s.pc] ∧
        ∃ t, instructionStep s = .next t ∧ t.cp0.badVAddr = s.pc ∧
          (∀ va, e = .addressError false va → t.stepFault = some .adEL ∧ t.cp0.cause.extractLsb' 2 5 = 4) ∧
          (∀ va, e = .tlbRefill false va ∨ e = .tlbInvalid false va →
            t.stepFault = some .tlbL ∧ t.cp0.cause.extractLsb' 2 5 = 2 ∧
            t.cp0.entryHi.extractLsb' 62 2 = s.pc.extractLsb' 62 2 ∧ t.cp0.entryHi.extractLsb' 13 27 = s.pc.extractLsb' 13 27) ∧
          (statusEXL s = false → t.cp0.epc = (if s.inDelaySlot then s.pc - 4 else s.pc) ∧
            t.cp0.cause.getLsbD 31 = s.inDelaySlot) ∧
          (statusEXL s = true → t.cp0.epc = s.cp0.epc ∧ t.cp0.cause.getLsbD 31 = s.cp0.cause.getLsbD 31) ∧
          t.pc = (if statusBEV s then 0xFFFFFFFFBFC00200 else 0xFFFFFFFF80000000) +
            (if e = .tlbRefill false s.pc ∧ statusEXL s = false then (if addr64 s (currentMode s) then 0x080 else 0x000)
              else 0x180) ∧
          t.nextPc = t.pc + 4 ∧ t.inDelaySlot = false ∧ statusEXL t = true ∧ t.regs = s.regs ∧ t.mem = s.mem ∧ t.tlb = s.tlb) ∧
      (∀ pa cached, Machine.translate s.pc .fetch s = .ok (pa, cached) →
        (regionKind s.params pa ∈ [RegionKind.mi, .vi, .external, .refuse] → fetch s = .error (.refuse .fetchFromDevice)) ∧
        (s.params.cacheCheck = false → cacheCheck pa .fetch cached s = .ok s) ∧
        (regionKind s.params pa ∈ [RegionKind.ram, .spMem, .cartRom, .pifRom, .unmapped] →
          (∀ r, cacheCheck pa .fetch cached s = .error r → fetch s = .error (.refuse r)) ∧
          (∀ u, cacheCheck pa .fetch cached s = .ok u → u = { s with cache := u.cache } ∧
            ∃ w, fetch s = .ok (w, u) ∧
              (regionKind s.params pa ∈ [RegionKind.ram, .spMem] → w = low32 (s.mem.readBE pa.toNat 4)) ∧
              (regionKind s.params pa = .cartRom → w = low32 (if pa.toNat - 0x10000000 + 4 ≤ s.romLen
                then s.mem.readBE pa.toNat 4 else s.params.openBusAt pa 4)) ∧
              (regionKind s.params pa = .pifRom → w = low32 (if s.pifPresent
                then s.mem.readBE pa.toNat 4 else s.params.openBusAt pa 4)) ∧
              (regionKind s.params pa = .unmapped → w = low32 (s.params.openBusAt pa 4)))))) ∧
    (∀ r, fetch s = .error (.refuse r) → instructionStep s = .refused r)

/-- The flow of control (10_state.md R31, R33, 42_control.md R183): every instruction that is no branch, jump or ERET and raises nothing
continues at next_pc; so after a taken branch or a jump the instruction in the delay slot runs, whatever plain instruction it is,
and after it the instruction at the target. -/
def Obligations.DelaySlotThenTarget : Prop :=
  (∀ (i : Instr) (s t : State), i.isControl = false → s.stepFault = none → exec i s = .next t → t.stepFault = none →
    t.pc = s.nextPc ∧ t.nextPc = s.nextPc + 4 ∧ t.inDelaySlot = false) ∧
  (∀ (s : State) (target : DWord) (slot : Instr) (u : State),
    slot.isControl = false → s.stepFault = none →
    exec slot (advance (.taken target) s) = .next u → u.stepFault = none →
    (advance (.taken target) s).pc = s.nextPc ∧ u.pc = target ∧ u.nextPc = target + 4 ∧ u.inDelaySlot = false)

/-! ## General registers -/

/-- Register 0 and the others (10_state.md R24, R25, 00_scope.md R14): a read of register 0 is 0 and a write of it changes nothing; any
other register reads what was written to it last, and a write changes no other register. An ADD to register 0 that overflows still
raises. -/
def Obligations.RegisterFile : Prop :=
  (∀ s, readReg s 0 = 0) ∧ (∀ s v, writeReg s 0 v = s) ∧
  (∀ s i v, i ≠ 0 → readReg (writeReg s i v) i = v) ∧
  (∀ s i j v, j ≠ i → readReg (writeReg s i v) j = readReg s j) ∧
  (∀ s i v, { writeReg s i v with regs := s.regs } = s) ∧
  (∀ s rs rt, words2 s rs rt = true →
    fits32 ((low32 (readReg s rs)).toInt + (low32 (readReg s rt)).toInt) = false →
    exec (.add 0 rs rt) s = .next (takeException .ov s))

/-- No instruction changes a general register other than its destination (or r31 of a linking instruction); none but the multiplies,
divides and MTHI changes HI, and none but the multiplies, divides and MTLO changes LO (10_state.md R25, R34). -/
def Obligations.OnlyDestinationsChange : Prop :=
  ∀ (i : Instr) (s t : State), exec i s = .next t →
    (∀ r, r ∉ destRegs i → readReg t r = readReg s r) ∧
    (writesHi i = false → t.hi = s.hi) ∧ (writesLo i = false → t.lo = s.lo)

/-! ## Integer arithmetic, logical and shift instructions -/

/-- The logical instructions and LUI (40_alu.md R142 to R149) and set on less than (R138 to R141): they complete in every state and write
only their destination; a comparison is of all 64 bits, its immediate sign-extended even for the unsigned one. -/
def Obligations.LogicalAndCompareResults : Prop :=
  ∀ (s : State) (d a b : RegIdx) (imm : BitVec 16),
    exec (.and d a b) s = .next (advance .next (writeReg s d (readReg s a &&& readReg s b))) ∧
    exec (.or d a b) s = .next (advance .next (writeReg s d (readReg s a ||| readReg s b))) ∧
    exec (.xor d a b) s = .next (advance .next (writeReg s d (readReg s a ^^^ readReg s b))) ∧
    exec (.nor d a b) s = .next (advance .next (writeReg s d (~~~(readReg s a ||| readReg s b)))) ∧
    exec (.andi d a imm) s = .next (advance .next (writeReg s d (readReg s a &&& imm.setWidth 64))) ∧
    exec (.ori d a imm) s = .next (advance .next (writeReg s d (readReg s a ||| imm.setWidth 64))) ∧
    exec (.xori d a imm) s = .next (advance .next (writeReg s d (readReg s a ^^^ imm.setWidth 64))) ∧
    exec (.lui d imm) s = .next (advance .next (writeReg s d ((imm ++ (0 : BitVec 16)).signExtend 64))) ∧
    exec (.slt d a b) s = .next (advance .next (writeReg s d (if (readReg s a).slt (readReg s b) then 1 else 0))) ∧
    exec (.sltu d a b) s = .next (advance .next (writeReg s d (if (readReg s a).ult (readReg s b) then 1 else 0))) ∧
    exec (.slti d a imm) s =
      .next (advance .next (writeReg s d (if (readReg s a).slt (imm.signExtend 64) then 1 else 0))) ∧
    exec (.sltiu d a imm) s =
      .next (advance .next (writeReg s d (if (readReg s a).ult (imm.signExtend 64) then 1 else 0)))

/-- 32-bit add and subtract on sext32 sources (R126 to R131): the non-trapping forms write the sum or difference modulo 2^32,
sign-extended; the trapping forms write the exact result when it is a signed 32-bit value, and otherwise take Integer Overflow
and write nothing. -/
def Obligations.WordAddSub : Prop :=
  ∀ (s : State) (d a b : RegIdx) (imm : BitVec 16), isSext32 (readReg s a) = true →
    exec (.addiu d a imm) s = .next (advance .next (writeReg s d (sext32 (low32 (readReg s a) + imm.signExtend 32)))) ∧
    (∀ r : Word, r.toInt = (low32 (readReg s a)).toInt + imm.toInt →
      exec (.addi d a imm) s = .next (advance .next (writeReg s d (sext32 r)))) ∧
    ((¬ ∃ r : Word, r.toInt = (low32 (readReg s a)).toInt + imm.toInt) →
      exec (.addi d a imm) s = .next (takeException .ov s)) ∧
    (isSext32 (readReg s b) = true →
      exec (.addu d a b) s = .next (advance .next (writeReg s d (sext32 (low32 (readReg s a) + low32 (readReg s b))))) ∧
      exec (.subu d a b) s = .next (advance .next (writeReg s d (sext32 (low32 (readReg s a) - low32 (readReg s b))))) ∧
      (∀ r : Word, r.toInt = (low32 (readReg s a)).toInt + (low32 (readReg s b)).toInt →
        exec (.add d a b) s = .next (advance .next (writeReg s d (sext32 r)))) ∧
      ((¬ ∃ r : Word, r.toInt = (low32 (readReg s a)).toInt + (low32 (readReg s b)).toInt) →
        exec (.add d a b) s = .next (takeException .ov s)) ∧
      (∀ r : Word, r.toInt = (low32 (readReg s a)).toInt - (low32 (readReg s b)).toInt →
        exec (.sub d a b) s = .next (advance .next (writeReg s d (sext32 r)))) ∧
      ((¬ ∃ r : Word, r.toInt = (low32 (readReg s a)).toInt - (low32 (readReg s b)).toInt) →
        exec (.sub d a b) s = .next (takeException .ov s)))

/-- 64-bit add and subtract where 64-bit operations are enabled (R132 to R137). -/
def Obligations.DoubleAddSub : Prop :=
  ∀ (s : State) (d a b : RegIdx) (imm : BitVec 16), ops64Enabled s = true →
    exec (.daddu d a b) s = .next (advance .next (writeReg s d (readReg s a + readReg s b))) ∧
    exec (.dsubu d a b) s = .next (advance .next (writeReg s d (readReg s a - readReg s b))) ∧
    exec (.daddiu d a imm) s = .next (advance .next (writeReg s d (readReg s a + imm.signExtend 64))) ∧
    (∀ r : DWord, r.toInt = (readReg s a).toInt + (readReg s b).toInt →
      exec (.dadd d a b) s = .next (advance .next (writeReg s d r))) ∧
    ((¬ ∃ r : DWord, r.toInt = (readReg s a).toInt + (readReg s b).toInt) →
      exec (.dadd d a b) s = .next (takeException .ov s)) ∧
    (∀ r : DWord, r.toInt = (readReg s a).toInt - (readReg s b).toInt →
      exec (.dsub d a b) s = .next (advance .next (writeReg s d r))) ∧
    ((¬ ∃ r : DWord, r.toInt = (readReg s a).toInt - (readReg s b).toInt) →
      exec (.dsub d a b) s = .next (takeException .ov s)) ∧
    (∀ r : DWord, r.toInt = (readReg s a).toInt + imm.toInt →
      exec (.daddi d a imm) s = .next (advance .next (writeReg s d r))) ∧
    ((¬ ∃ r : DWord, r.toInt = (readReg s a).toInt + imm.toInt) →
      exec (.daddi d a imm) s = .next (takeException .ov s))

/-- The shifts (R150 to R164): only the low 5 bits of a word shift's amount count, the low 6 of a doubleword shift's; SLL and SLLV have no
precondition; the doubleword shifts need 64-bit operations enabled. -/
def Obligations.ShiftResults : Prop :=
  ∀ (s : State) (d a b : RegIdx) (sa : BitVec 5),
    exec (.sll d a sa) s = .next (advance .next (writeReg s d (sext32 (low32 (readReg s a) <<< sa.toNat)))) ∧
    exec (.sllv d a b) s =
      .next (advance .next (writeReg s d (sext32 (low32 (readReg s a) <<< ((readReg s b).toNat % 32))))) ∧
    (isSext32 (readReg s a) = true →
      exec (.srl d a sa) s = .next (advance .next (writeReg s d (sext32 (low32 (readReg s a) >>> sa.toNat)))) ∧
      exec (.srlv d a b) s =
        .next (advance .next (writeReg s d (sext32 (low32 (readReg s a) >>> ((readReg s b).toNat % 32))))) ∧
      exec (.sra d a sa) s =
        .next (advance .next (writeReg s d (BitVec.ofInt 64 ((low32 (readReg s a)).toInt / 2 ^ sa.toNat)))) ∧
      exec (.srav d a b) s =
        .next (advance .next (writeReg s d (BitVec.ofInt 64 ((low32 (readReg s a)).toInt / 2 ^ ((readReg s b).toNat % 32)))))) ∧
    (ops64Enabled s = true →
      exec (.dsll d a sa) s = .next (advance .next (writeReg s d (readReg s a <<< sa.toNat))) ∧
      exec (.dsrl d a sa) s = .next (advance .next (writeReg s d (readReg s a >>> sa.toNat))) ∧
      exec (.dsra d a sa) s =
        .next (advance .next (writeReg s d (BitVec.ofInt 64 ((readReg s a).toInt / 2 ^ sa.toNat)))) ∧
      exec (.dsll32 d a sa) s = .next (advance .next (writeReg s d (readReg s a <<< (32 + sa.toNat)))) ∧
      exec (.dsrl32 d a sa) s = .next (advance .next (writeReg s d (readReg s a >>> (32 + sa.toNat)))) ∧
      exec (.dsra32 d a sa) s =
        .next (advance .next (writeReg s d (BitVec.ofInt 64 ((readReg s a).toInt / 2 ^ (32 + sa.toNat))))) ∧
      exec (.dsllv d a b) s = .next (advance .next (writeReg s d (readReg s a <<< ((readReg s b).toNat % 64)))) ∧
      exec (.dsrlv d a b) s = .next (advance .next (writeReg s d (readReg s a >>> ((readReg s b).toNat % 64)))) ∧
      exec (.dsrav d a b) s =
        .next (advance .next (writeReg s d (BitVec.ofInt 64 ((readReg s a).toInt / 2 ^ ((readReg s b).toNat % 64))))))

/-! ## Multiply, divide, HI and LO -/

/-- The multiplies (41_muldiv.md R170 to R173, R182): HI and LO hold the upper and lower half of the exact product. -/
def Obligations.MultiplyResults : Prop :=
  ∀ (s : State) (a b : RegIdx), hiLoFree s →
    (words2 s a b = true →
      (∃ hi lo : Word, (hi ++ lo).toInt = (low32 (readReg s a)).toInt * (low32 (readReg s b)).toInt ∧
        exec (.mult a b) s = .next (advance .next (withHiLo s (sext32 hi) (sext32 lo)))) ∧
      (∃ hi lo : Word, (hi ++ lo).toNat = (low32 (readReg s a)).toNat * (low32 (readReg s b)).toNat ∧
        exec (.multu a b) s = .next (advance .next (withHiLo s (sext32 hi) (sext32 lo))))) ∧
    (ops64Enabled s = true →
      (∃ hi lo : DWord, (hi ++ lo).toInt = (readReg s a).toInt * (readReg s b).toInt ∧
        exec (.dmult a b) s = .next (advance .next (withHiLo s hi lo))) ∧
      (∃ hi lo : DWord, (hi ++ lo).toNat = (readReg s a).toNat * (readReg s b).toNat ∧
        exec (.dmultu a b) s = .next (advance .next (withHiLo s hi lo))))

/-- The divides (R174 to R177, R182): for a nonzero divisor the dividend is divisor times LO plus HI, the remainder is smaller
than the divisor and has the dividend's sign or is 0; the one overflowing case gives the most negative quotient and remainder 0. The
unsigned divides give quotient and remainder of the unsigned values. -/
def Obligations.DivideResults : Prop :=
  ∀ (s : State) (a b : RegIdx), hiLoFree s →
    (words2 s a b = true → low32 (readReg s b) ≠ 0 →
      ∃ q r : Word, exec (.div a b) s = .next (advance .next (withHiLo s (sext32 r) (sext32 q))) ∧
        (low32 (readReg s a) = 0x80000000 → low32 (readReg s b) = 0xFFFFFFFF → q = 0x80000000 ∧ r = 0) ∧
        (¬ (low32 (readReg s a) = 0x80000000 ∧ low32 (readReg s b) = 0xFFFFFFFF) →
          (low32 (readReg s a)).toInt = (low32 (readReg s b)).toInt * q.toInt + r.toInt ∧
          r.toInt.natAbs < (low32 (readReg s b)).toInt.natAbs ∧
          (r ≠ 0 → (r.toInt < 0 ↔ (low32 (readReg s a)).toInt < 0)))) ∧
    (ops64Enabled s = true → readReg s b ≠ 0 →
      ∃ q r : DWord, exec (.ddiv a b) s = .next (advance .next (withHiLo s r q)) ∧
        (readReg s a = 0x8000000000000000 → readReg s b = 0xFFFFFFFFFFFFFFFF → q = 0x8000000000000000 ∧ r = 0) ∧
        (¬ (readReg s a = 0x8000000000000000 ∧ readReg s b = 0xFFFFFFFFFFFFFFFF) →
          (readReg s a).toInt = (readReg s b).toInt * q.toInt + r.toInt ∧
          r.toInt.natAbs < (readReg s b).toInt.natAbs ∧ (r ≠ 0 → (r.toInt < 0 ↔ (readReg s a).toInt < 0)))) ∧
    (words2 s a b = true → low32 (readReg s b) ≠ 0 →
      exec (.divu a b) s = .next (advance .next (withHiLo s
        (sext32 (low32 (readReg s a) % low32 (readReg s b))) (sext32 (low32 (readReg s a) / low32 (readReg s b)))))) ∧
    (ops64Enabled s = true → readReg s b ≠ 0 →
      exec (.ddivu a b) s =
        .next (advance .next (withHiLo s (readReg s a % readReg s b) (readReg s a / readReg s b))))

/-- The undefined operands (40_alu.md R123, 41_muldiv.md R168, R169): the instruction completes, and what it would have written is a free
value, whatever that is: the sign extension of a free word for a 32-bit operation with a source that is no sext32 value (ADD, SUB
and ADDI may raise Integer Overflow instead), HI and LO for such a multiply or divide and for a division by zero. How
many draws each takes is the model's count (log entry 3). -/
def Obligations.UndefinedOperands : Prop :=
  (∀ (s : State) (d a b : RegIdx) (imm : BitVec 16) (sa : BitVec 5),
    (∀ i, (isSext32 (readReg s a) = false ∧
          i ∈ [Instr.addiu d a imm, .srl d a sa, .sra d a sa, .srlv d a b, .srav d a b]) ∨
        (words2 s a b = false ∧ i ∈ [Instr.addu d a b, .subu d a b]) →
      ∃ w : Word, exec i s =
        .next (advance .next (writeReg { s with draws := s.draws + 1 } d (sext32 w)))) ∧
    (∀ i, (isSext32 (readReg s a) = false ∧ i = .addi d a imm) ∨
        (words2 s a b = false ∧ i ∈ [Instr.add d a b, .sub d a b]) →
      exec i s = .next (takeException .ov { s with draws := s.draws + 1 }) ∨
      ∃ w : Word, exec i s =
        .next (advance .next (writeReg { s with draws := s.draws + 2 } d (sext32 w))))) ∧
  (∀ (s : State) (a b : RegIdx), hiLoFree s →
    (words2 s a b = false → ∀ i ∈ [Instr.mult a b, .multu a b, .div a b, .divu a b],
      ∃ hi lo : Word, exec i s = .next (advance .next
        (withHiLo { s with draws := s.draws + 2 } (sext32 hi) (sext32 lo)))) ∧
    (words2 s a b = true → low32 (readReg s b) = 0 → ∀ i ∈ [Instr.div a b, .divu a b],
      ∃ hi lo : Word, exec i s = .next (advance .next
        (withHiLo { s with draws := s.draws + 2 } (sext32 hi) (sext32 lo)))) ∧
    (ops64Enabled s = true → readReg s b = 0 → ∀ i ∈ [Instr.ddiv a b, .ddivu a b],
      ∃ hi lo : DWord, exec i s = .next (advance .next (withHiLo { s with draws := s.draws + 2 } hi lo))))

/-- The moves from and to HI and LO (41_muldiv.md R178 to R181) and the hazard (70_reset_and_hazards.md R334): MFHI and MFLO start the
hazard window, in which the first and second following steps stand and the third does not; a write of HI or LO completes outside
its window and is refused inside it. -/
def Obligations.HiLoMovesAndHazard : Prop :=
  (∀ (s : State) (r : RegIdx),
    exec (.mfhi r) s = .next (advance .next { writeReg s r s.hi with hiReadAge := 3 }) ∧
    exec (.mflo r) s = .next (advance .next { writeReg s r s.lo with loReadAge := 3 }) ∧
    (s.hiReadAge = 0 → exec (.mthi r) s = .next (advance .next { s with hi := readReg s r })) ∧
    (s.loReadAge = 0 → exec (.mtlo r) s = .next (advance .next { s with lo := readReg s r }))) ∧
  (∀ (s : State) (r : RegIdx), s.hiReadAge > 0 → exec (.mthi r) s = .refused .hiLoHazard) ∧
  (∀ (s : State) (r : RegIdx), s.loReadAge > 0 → exec (.mtlo r) s = .refused .hiLoHazard) ∧
  (∀ (s : State) (a b : RegIdx), (s.hiReadAge > 0 ∨ s.loReadAge > 0) →
    exec (.mult a b) s = .refused .hiLoHazard ∧ exec (.multu a b) s = .refused .hiLoHazard ∧
    exec (.div a b) s = .refused .hiLoHazard ∧ exec (.divu a b) s = .refused .hiLoHazard ∧
    (ops64Enabled s = true →
      exec (.dmult a b) s = .refused .hiLoHazard ∧ exec (.dmultu a b) s = .refused .hiLoHazard ∧
      exec (.ddiv a b) s = .refused .hiLoHazard ∧ exec (.ddivu a b) s = .refused .hiLoHazard)) ∧
  (∀ (s : State), s.hiReadAge = 3 →
    (beginStep s).hiReadAge > 0 ∧ (beginStep (beginStep s)).hiReadAge > 0 ∧
    (beginStep (beginStep (beginStep s))).hiReadAge = 0) ∧
  (∀ (s : State), s.loReadAge = 3 →
    (beginStep s).loReadAge > 0 ∧ (beginStep (beginStep s)).loReadAge > 0 ∧
    (beginStep (beginStep (beginStep s))).loReadAge = 0)

/-! ## Branches and jumps -/

/-- The conditional branches (42_control.md R189 to R200): taken to pc + 4 + boff, or not taken, with nothing else changed; a
branch-likely not taken annuls its delay slot and goes on at next_pc + 4 (R187). -/
def Obligations.BranchResults : Prop :=
  ∀ (s : State) (a b : RegIdx) (o : BitVec 16) (target : DWord), target = s.pc + 4 + (o ++ (0 : BitVec 2)).signExtend 64 →
    exec (.beq a b o) s = .next (if readReg s a = readReg s b then advance (.taken target) s else advance .notTaken s) ∧
    exec (.bne a b o) s = .next (if readReg s a ≠ readReg s b then advance (.taken target) s else advance .notTaken s) ∧
    exec (.blez a o) s = .next (if (readReg s a).toInt ≤ 0 then advance (.taken target) s else advance .notTaken s) ∧
    exec (.bgtz a o) s = .next (if (readReg s a).toInt > 0 then advance (.taken target) s else advance .notTaken s) ∧
    exec (.bltz a o) s = .next (if (readReg s a).toInt < 0 then advance (.taken target) s else advance .notTaken s) ∧
    exec (.bgez a o) s = .next (if (readReg s a).toInt ≥ 0 then advance (.taken target) s else advance .notTaken s) ∧
    exec (.beql a b o) s = .next (if readReg s a = readReg s b then advance (.taken target) s else advance .annul s) ∧
    exec (.bnel a b o) s = .next (if readReg s a ≠ readReg s b then advance (.taken target) s else advance .annul s) ∧
    exec (.blezl a o) s = .next (if (readReg s a).toInt ≤ 0 then advance (.taken target) s else advance .annul s) ∧
    exec (.bgtzl a o) s = .next (if (readReg s a).toInt > 0 then advance (.taken target) s else advance .annul s) ∧
    exec (.bltzl a o) s = .next (if (readReg s a).toInt < 0 then advance (.taken target) s else advance .annul s) ∧
    exec (.bgezl a o) s = .next (if (readReg s a).toInt ≥ 0 then advance (.taken target) s else advance .annul s)

/-- The linking branches (R186, R201 to R204): refused with rs = 31; else r31 receives pc + 8 whether the branch is taken or not. -/
def Obligations.LinkingBranchResults : Prop :=
  ∀ (s : State) (a : RegIdx) (o : BitVec 16) (target : DWord), target = s.pc + 4 + (o ++ (0 : BitVec 2)).signExtend 64 →
    (a = 31 → ∀ i ∈ [Instr.bltzal a o, .bgezal a o, .bltzall a o, .bgezall a o], exec i s = .refused .linkOverwritesSource) ∧
    (a ≠ 31 →
      exec (.bltzal a o) s = .next
        (if (readReg s a).toInt < 0 then advance (.taken target) (writeReg s 31 (s.pc + 8))
         else advance .notTaken (writeReg s 31 (s.pc + 8))) ∧
      exec (.bgezal a o) s = .next
        (if (readReg s a).toInt ≥ 0 then advance (.taken target) (writeReg s 31 (s.pc + 8))
         else advance .notTaken (writeReg s 31 (s.pc + 8))) ∧
      exec (.bltzall a o) s = .next
        (if (readReg s a).toInt < 0 then advance (.taken target) (writeReg s 31 (s.pc + 8))
         else advance .annul (writeReg s 31 (s.pc + 8))) ∧
      exec (.bgezall a o) s = .next
        (if (readReg s a).toInt ≥ 0 then advance (.taken target) (writeReg s 31 (s.pc + 8))
         else advance .annul (writeReg s 31 (s.pc + 8))))

/-- The jumps (R184, R205 to R208): the region of J and JAL is that of the delay slot's address; JR and JALR go to the register read when
the jump executes; JALR with rd = rs is refused. -/
def Obligations.JumpResults : Prop :=
  ∀ (s : State) (d a : RegIdx) (t : BitVec 26) (target : DWord),
    target.extractLsb' 28 36 = (s.pc + 4).extractLsb' 28 36 → target.extractLsb' 2 26 = t → target.extractLsb' 0 2 = 0 →
    exec (.j t) s = .next (advance (.taken target) s) ∧
    exec (.jal t) s = .next (advance (.taken target) (writeReg s 31 (s.pc + 8))) ∧
    exec (.jr a) s = .next (advance (.taken (readReg s a)) s) ∧
    (d ≠ a → exec (.jalr d a) s = .next (advance (.taken (readReg s a)) (writeReg s d (s.pc + 8)))) ∧
    (d = a → exec (.jalr d a) s = .refused .linkOverwritesSource)

/-! ## Translation -/

/-- The segments (20_memory.md R75, R91 to R93, 60_exceptions.md R295): an address that is no sext32 value is refused, and in user mode with
Status.RE = 1 any; a segment the mode may not use raises Address Error with the address as it is; in kernel mode kseg0 and kseg1
translate by subtraction, kseg1 uncached and kseg0 cached unless Config.K0 is 2; with Status.ERL = 1 useg is the identity; every other address in
a mapped segment that the mode may use is translated through the TLB. -/
def Obligations.SegmentTranslation : Prop :=
  ∀ (s : State) (va : DWord) (kind : AccessKind),
    (isSext32 va = false → Machine.translate va kind s = .error (.refuse .nonSext32Address)) ∧
    (isSext32 va = true → currentMode s = .user → statusRE s = true →
      Machine.translate va kind s = .error (.refuse .reverseEndian)) ∧
    (isSext32 va = true → currentMode s = .user → statusRE s = false → 0x80000000 ≤ (low32 va).toNat →
      Machine.translate va kind s = .error (.raise (.addressError (kind = .store) va) s)) ∧
    (isSext32 va = true → currentMode s = .supervisor → 0x80000000 ≤ (low32 va).toNat → (low32 va).toNat < 0xC0000000 →
      Machine.translate va kind s = .error (.raise (.addressError (kind = .store) va) s)) ∧
    (isSext32 va = true → currentMode s = .supervisor → 0xE0000000 ≤ (low32 va).toNat →
      Machine.translate va kind s = .error (.raise (.addressError (kind = .store) va) s)) ∧
    (isSext32 va = true → currentMode s = .kernel → 0x80000000 ≤ (low32 va).toNat → (low32 va).toNat < 0xA0000000 →
      Machine.translate va kind s = .ok (low32 va - 0x80000000, s.cp0.config.extractLsb' 0 3 != 2)) ∧
    (isSext32 va = true → currentMode s = .kernel → 0xA0000000 ≤ (low32 va).toNat → (low32 va).toNat < 0xC0000000 →
      Machine.translate va kind s = .ok (low32 va - 0xA0000000, false)) ∧
    (isSext32 va = true → statusERL s = true → (low32 va).toNat < 0x80000000 →
      Machine.translate va kind s = .ok (low32 va, false)) ∧
    (isSext32 va = true → statusERL s = false → (currentMode s = .user → statusRE s = false) → (low32 va).toNat < 0x80000000 →
      Machine.translate va kind s = tlbTranslate va kind s) ∧
    (isSext32 va = true → currentMode s ≠ .user → 0xC0000000 ≤ (low32 va).toNat → (low32 va).toNat < 0xE0000000 →
      Machine.translate va kind s = tlbTranslate va kind s) ∧
    (isSext32 va = true → currentMode s = .kernel → 0xE0000000 ≤ (low32 va).toNat →
      Machine.translate va kind s = tlbTranslate va kind s)

/-- Translation through the TLB (R95): an entry matches by R, VPN2 outside its mask, and G or ASID; the outcome is by the number of
matching entries, then V, D and the page frame. -/
def Obligations.TlbTranslation : Prop :=
  (∀ (e : TlbEntry) (va : DWord) (asid : BitVec 8), e.matchesAddr va asid = true ↔
    e.r = va.extractLsb' 62 2 ∧ (∀ j < 27, e.mask.getLsbD j = false → e.vpn2.getLsbD j = va.getLsbD (13 + j)) ∧
    (e.g = true ∨ e.asid = asid)) ∧
  ∀ (s : State) (va : DWord) (kind : AccessKind),
    ((∀ i : Fin 32, (s.tlb[i]).matchesAddr va (s.cp0.entryHi.extractLsb' 0 8) = false) →
      tlbTranslate va kind s = .error (.raise (.tlbRefill (kind = .store) va) s)) ∧
    (∀ i j : Fin 32, i ≠ j → (s.tlb[i]).matchesAddr va (s.cp0.entryHi.extractLsb' 0 8) = true →
      (s.tlb[j]).matchesAddr va (s.cp0.entryHi.extractLsb' 0 8) = true →
      tlbTranslate va kind s = .error (.refuse .tlbMultipleMatch)) ∧
    (∀ i : Fin 32, (s.tlb[i]).matchesAddr va (s.cp0.entryHi.extractLsb' 0 8) = true →
      (∀ j : Fin 32, j ≠ i → (s.tlb[j]).matchesAddr va (s.cp0.entryHi.extractLsb' 0 8) = false) →
      ∀ k, (s.tlb[i]).mask.toNat = 4 ^ k - 1 → k ≤ 6 →
      ∀ p, p = (if va.getLsbD (12 + 2 * k) then (s.tlb[i]).odd else (s.tlb[i]).even) →
        (p.v = false → tlbTranslate va kind s = .error (.raise (.tlbInvalid (kind = .store) va) s)) ∧
        (p.v = true → kind = .store → p.d = false →
          tlbTranslate va kind s = .error (.raise (.tlbModified va) s)) ∧
        (p.v = true → (kind ≠ .store ∨ p.d = true) → p.pfn.toNat % 4 ^ k ≠ 0 →
          tlbTranslate va kind s = .error (.refuse .pfnNotPageAligned)) ∧
        (p.v = true → (kind ≠ .store ∨ p.d = true) → p.pfn.toNat % 4 ^ k = 0 →
          ∃ pa : Word, pa.toNat = p.pfn.toNat * 4096 + va.toNat % (4096 * 4 ^ k) ∧
            tlbTranslate va kind s = .ok (pa, p.c != 2)))

/-! ## Loads and stores -/

/-- Loads from RAM (43_loadstore.md R213 to R219, 20_memory.md R80): the naturally aligned unit that holds the address is read, and
extended as each instruction says; nothing else changes. -/
def Obligations.LoadResults : Prop :=
  ∀ (s : State) (rt base : RegIdx) (o : BitVec 16) (pa : Word),
    reachesRam s false (readReg s base + o.signExtend 64) pa →
    exec (.lb rt o base) s =
      .next (advance .next (writeReg s rt (((s.mem.readBE pa.toNat 1).setWidth 8).signExtend 64))) ∧
    exec (.lbu rt o base) s =
      .next (advance .next (writeReg s rt (((s.mem.readBE pa.toNat 1).setWidth 8).setWidth 64))) ∧
    exec (.lh rt o base) s =
      .next (advance .next (writeReg s rt (((s.mem.readBE (pa.toNat / 2 * 2) 2).setWidth 16).signExtend 64))) ∧
    exec (.lhu rt o base) s =
      .next (advance .next (writeReg s rt (((s.mem.readBE (pa.toNat / 2 * 2) 2).setWidth 16).setWidth 64))) ∧
    exec (.lw rt o base) s =
      .next (advance .next (writeReg s rt (((s.mem.readBE (pa.toNat / 4 * 4) 4).setWidth 32).signExtend 64))) ∧
    (ops64Enabled s = true →
      exec (.lwu rt o base) s =
        .next (advance .next (writeReg s rt (((s.mem.readBE (pa.toNat / 4 * 4) 4).setWidth 32).setWidth 64))) ∧
      exec (.ld rt o base) s = .next (advance .next (writeReg s rt (s.mem.readBE (pa.toNat / 8 * 8) 8))))

/-- Partial loads from RAM (R220 to R223): the bytes each merges into the register; LWR with an address that is not the last byte of its
word leaves the upper half of the register a free value. -/
def Obligations.PartialLoadResults : Prop :=
  ∀ (s : State) (rt base : RegIdx) (o : BitVec 16) (pa : Word) (k8 : Nat),
    reachesRam s false (readReg s base + o.signExtend 64) pa → (readReg s base + o.signExtend 64).toNat % 8 = k8 →
    (∃ r : Word, exec (.lwl rt o base) s = .next (advance .next (writeReg s rt (sext32 r))) ∧
      ∀ j < 32, r.getLsbD j = if j < 8 * (k8 % 4) then (readReg s rt).getLsbD j
        else (s.mem.readBE (pa.toNat / 4 * 4) 4).getLsbD (j - 8 * (k8 % 4))) ∧
    (∃ r : Word, (∀ j < 32, r.getLsbD j = if j < 8 * (k8 % 4) + 8 then
          (s.mem.readBE (pa.toNat / 4 * 4) 4).getLsbD (j + 8 * (3 - k8 % 4)) else (readReg s rt).getLsbD j) ∧
      (k8 % 4 = 3 → exec (.lwr rt o base) s = .next (advance .next (writeReg s rt (sext32 r)))) ∧
      (k8 % 4 ≠ 3 → ∃ upper : Word, exec (.lwr rt o base) s =
        .next (advance .next (writeReg { s with draws := s.draws + 1 } rt (upper ++ r))))) ∧
    (ops64Enabled s = true →
      (∃ r : DWord, exec (.ldl rt o base) s = .next (advance .next (writeReg s rt r)) ∧
        ∀ j < 64, r.getLsbD j = if j < 8 * k8 then (readReg s rt).getLsbD j
          else (s.mem.readBE (pa.toNat / 8 * 8) 8).getLsbD (j - 8 * k8)) ∧
      (∃ r : DWord, exec (.ldr rt o base) s = .next (advance .next (writeReg s rt r)) ∧
        ∀ j < 64, r.getLsbD j = if j < 8 * k8 + 8 then
          (s.mem.readBE (pa.toNat / 8 * 8) 8).getLsbD (j + 8 * (7 - k8)) else (readReg s rt).getLsbD j))

/-- Stores to RAM (R225 to R228, R80): the bytes of the naturally aligned unit are written most significant first, and no other byte and
nothing else changes but the program counter. -/
def Obligations.StoreResults : Prop :=
  ∀ (s : State) (rt base : RegIdx) (o : BitVec 16) (pa : Word),
    reachesRam s true (readReg s base + o.signExtend 64) pa →
    (∀ i n, (i, n) ∈ [(Instr.sb rt o base, 1), (.sh rt o base, 2), (.sw rt o base, 4), (.sd rt o base, 8)] →
      (n = 8 → ops64Enabled s = true) →
      ∃ m : Memory, exec i s = .next (advance .next { s with mem := m }) ∧
        (∀ j < n, m.read (pa.toNat / n * n + j) = (readReg s rt).extractLsb' (8 * (n - 1 - j)) 8) ∧
        ∀ a, (a < pa.toNat / n * n ∨ pa.toNat / n * n + n ≤ a) → m.read a = s.mem.read a)

/-- Partial stores to RAM (R229 to R232): SWL and SDL write the bytes from the address to the end of its unit, SWR and SDR those from
the start of the unit to the address; no other byte and nothing else changes but the program counter. -/
def Obligations.PartialStoreResults : Prop :=
  ∀ (s : State) (rt base : RegIdx) (o : BitVec 16) (pa : Word) (ea : DWord), ea = readReg s base + o.signExtend 64 →
    reachesRam s true ea pa →
    (∀ i n, (i, n) ∈ [(Instr.swl rt o base, 4), (.sdl rt o base, 8)] → (n = 8 → ops64Enabled s = true) →
      ∃ m : Memory, exec i s = .next (advance .next { s with mem := m }) ∧
        (∀ j < n, m.read (pa.toNat / n * n + j) = if j < ea.toNat % n then s.mem.read (pa.toNat / n * n + j)
          else (readReg s rt).extractLsb' (8 * (n - 1 - (j - ea.toNat % n))) 8) ∧
        ∀ a, (a < pa.toNat / n * n ∨ pa.toNat / n * n + n ≤ a) → m.read a = s.mem.read a) ∧
    (∀ i n, (i, n) ∈ [(Instr.swr rt o base, 4), (.sdr rt o base, 8)] → (n = 8 → ops64Enabled s = true) →
      ∃ m : Memory, exec i s = .next (advance .next { s with mem := m }) ∧
        (∀ j < n, m.read (pa.toNat / n * n + j) = if ea.toNat % n < j then s.mem.read (pa.toNat / n * n + j)
          else (readReg s rt).extractLsb' (8 * (ea.toNat % n - j)) 8) ∧
        ∀ a, (a < pa.toNat / n * n ∨ pa.toNat / n * n + n ≤ a) → m.read a = s.mem.read a)

/-- The unaligned load idiom (R224): LWL at an address and LWR three bytes on, or LDL and LDR seven bytes on, assemble the bytes of
memory from that address. -/
def Obligations.UnalignedLoadIdiom : Prop :=
  ∀ (m : Memory) (a : Nat) (old : Word) (oldD : DWord),
    lwrWord ((a + 3) % 4) (low32 (m.readBE ((a + 3) / 4 * 4) 4)) (lwlWord (a % 4) (low32 (m.readBE (a / 4 * 4) 4)) old) =
      low32 (m.readBE a 4) ∧
    ldrDouble ((a + 7) % 8) (m.readBE ((a + 7) / 8 * 8) 8) (ldlDouble (a % 8) (m.readBE (a / 8 * 8) 8) oldD) = m.readBE a 8

/-- The bytes of memory an instruction changes (43_loadstore.md R211, 20_memory.md R78, R80, 44_system.md R267): where the effective
address of a storing instruction translates to `pa`, every byte outside the aligned unit of `pa` reads as before, and where it does
not translate every byte does; an instruction that stores nothing changes no byte and no device register, and marks no external
store, but for CACHE, which changes no byte outside the 16 bytes of the data line of its address. -/
def Obligations.MemoryFrame : Prop :=
  (∀ (i : Instr) (s t : State) (w : Width) (o : BitVec 16) (base : RegIdx), storeForm i = some (w, o, base) →
    exec i s = .next t →
    (∀ pa cached, Machine.translate (effAddr s base o) .store s = .ok (pa, cached) →
      ∀ a, (a < pa.toNat / w.bytes * w.bytes ∨ pa.toNat / w.bytes * w.bytes + w.bytes ≤ a) → t.mem.read a = s.mem.read a) ∧
    ((∃ e, Machine.translate (effAddr s base o) .store s = .error e) → ∀ a, t.mem.read a = s.mem.read a)) ∧
  (∀ (i : Instr) (s t : State), storeForm i = none → exec i s = .next t →
    t.mi = s.mi ∧ t.vi = s.vi ∧ t.extActive = s.extActive ∧
    ((∀ op o base, i ≠ .cache op o base) → t.mem = s.mem) ∧
    (∀ op o base, i = .cache op o base → ∀ pa cached, Machine.translate (effAddr s base o) .load s = .ok (pa, cached) →
      ∀ a, (a < pa.toNat / 16 * 16 ∨ pa.toNat / 16 * 16 + 16 ≤ a) → t.mem.read a = s.mem.read a))

/-- Load-linked and store-conditional in RAM (R233 to R237): LL and LLD set LLbit and record the line address; SC and SCD store and give 1
when LLbit = 1, and otherwise store nothing and give 0; neither changes LLbit. -/
def Obligations.LoadLinkedStoreConditional : Prop :=
  ∀ (s : State) (rt base : RegIdx) (o : BitVec 16) (pa : Word),
    (reachesRam s false (readReg s base + o.signExtend 64) pa →
      exec (.ll rt o base) s = .next (advance .next { writeReg s rt
          (((s.mem.readBE (pa.toNat / 4 * 4) 4).setWidth 32).signExtend 64) with
        llbit := true, cp0 := { s.cp0 with llAddr := pa >>> 4 } }) ∧
      (ops64Enabled s = true → exec (.lld rt o base) s = .next (advance .next
        { writeReg s rt (s.mem.readBE (pa.toNat / 8 * 8) 8) with
          llbit := true, cp0 := { s.cp0 with llAddr := pa >>> 4 } }))) ∧
    (reachesRam s true (readReg s base + o.signExtend 64) pa →
      (s.llbit = true →
        exec (.sc rt o base) s = .next (advance .next (writeReg { s with
          mem := s.mem.writeBE (pa.toNat / 4 * 4) fullMask 4 (((readReg s rt).setWidth 32).setWidth 64) } rt 1)) ∧
        (ops64Enabled s = true → exec (.scd rt o base) s = .next (advance .next (writeReg { s with
          mem := s.mem.writeBE (pa.toNat / 8 * 8) fullMask 8 (readReg s rt) } rt 1)))) ∧
      (s.llbit = false →
        exec (.sc rt o base) s = .next (advance .next (writeReg s rt 0)) ∧
        (ops64Enabled s = true → exec (.scd rt o base) s = .next (advance .next (writeReg s rt 0)))))

/-- What ends a data access before it starts (20_memory.md R76, R77, R101, 43_loadstore.md R211, 60_exceptions.md R291): an exception of
the translation is taken, its refusal refuses, a watched access takes the Watch exception and with EXL or ERL set is refused, and
an access the cache checker refuses is refused. A store-conditional without LLbit translates, watches nothing, stores nothing and
gives 0 (R236, R237). -/
def Obligations.DataAccessExceptions : Prop :=
  ∀ (s : State) (rt base : RegIdx) (o : BitVec 16),
    (∀ (i : Instr) (store : Bool),
      ((store = false ∧ i ∈ [Instr.lb rt o base, .lbu rt o base, .lh rt o base, .lhu rt o base, .lw rt o base,
          .lwl rt o base, .lwr rt o base, .ll rt o base]) ∨
        (store = false ∧ ops64Enabled s = true ∧
          i ∈ [Instr.lwu rt o base, .ld rt o base, .ldl rt o base, .ldr rt o base, .lld rt o base]) ∨
        (store = true ∧ i ∈ [Instr.sb rt o base, .sh rt o base, .sw rt o base, .swl rt o base, .swr rt o base,
          .sc rt o base]) ∨
        (store = true ∧ ops64Enabled s = true ∧
          i ∈ [Instr.sd rt o base, .sdl rt o base, .sdr rt o base, .scd rt o base])) →
      ∀ kind, kind = (if store then AccessKind.store else .load) →
      ∀ tr, tr = Machine.translate (effAddr s base o) kind s →
        (∀ e s', tr = .error (.raise e s') → exec i s = .next (takeException e s)) ∧
        (∀ r, tr = .error (.refuse r) → exec i s = .refused r) ∧
        (∀ pa cached, tr = .ok (pa, cached) → (i ∈ [Instr.sc rt o base, .scd rt o base] → s.llbit = true) →
          (s.cp0.watchLo.getLsbD (if store then 0 else 1) = true → pa.extractLsb' 3 29 = s.cp0.watchLo.extractLsb' 3 29 →
            s.cp0.watchHi.extractLsb' 0 4 = 0 →
            ((statusEXL s = false ∧ statusERL s = false) → exec i s = .next (takeException .watch s)) ∧
            ((statusEXL s = true ∨ statusERL s = true) → exec i s = .refused .watchDeferred)) ∧
          (watchMatches pa store s = false → ∀ r, cacheCheck pa kind cached s = .error r → exec i s = .refused r))) ∧
    (s.llbit = false → ∀ p, Machine.translate (effAddr s base o) .store s = .ok p →
      exec (.sc rt o base) s = .next (advance .next (writeReg s rt 0)) ∧
      (ops64Enabled s = true → exec (.scd rt o base) s = .next (advance .next (writeReg s rt 0))))

/-- The bus (20_memory.md R78, R87 to R89): RAM takes every width; SP memory, MI and VI take words only, and a word access of MI or VI is
the device's own read or write at the offset; the ROMs give words and refuse stores; an unmapped address reads as P_OPEN_BUS, 0
by default, and discards a store; an external store is noted; a masked store writes the selected bytes of RAM or SP memory and is
refused by MI and VI. And every load and store that goes to the bus is the access of its width at the aligned address, whatever the
region (43_loadstore.md R213 to R237): what the bus answers is extended or merged into the register, and what it refuses is refused. -/
def Obligations.BusRegions : Prop :=
  (∀ (s : State) (pa : Word) (w : Width) (v : DWord) (mask : BitVec 8),
    (regionKind s.params pa = .ram → physRead s pa w = .ok (s.mem.readBE pa.toNat w.bytes, s) ∧
      physWrite s pa w v = .ok { s with mem := s.mem.writeBE pa.toNat fullMask w.bytes v } ∧
      physWriteMasked s pa w v mask = .ok { s with mem := s.mem.writeBE pa.toNat mask w.bytes v }) ∧
    (regionKind s.params pa ∈ [RegionKind.spMem, .mi, .vi] → w ≠ .word →
      physRead s pa w = .error .deviceWidth ∧ physWrite s pa w v = .error .deviceWidth) ∧
    (regionKind s.params pa = .spMem → physRead s pa .word = .ok (s.mem.readBE pa.toNat 4, s) ∧
      physWrite s pa .word v = .ok { s with mem := s.mem.writeBE pa.toNat fullMask 4 v } ∧
      physWriteMasked s pa .word v mask = .ok { s with mem := s.mem.writeBE pa.toNat mask 4 v }) ∧
    (regionKind s.params pa = .mi →
      physRead s pa .word = .ok ((miRead s.params s.mi (pa - 0x04300000).toNat).setWidth 64, s) ∧
      (∀ m, miWrite s.mi (pa - 0x04300000).toNat (v.setWidth 32) = .ok m → physWrite s pa .word v = .ok { s with mi := m }) ∧
      (∀ e, miWrite s.mi (pa - 0x04300000).toNat (v.setWidth 32) = .error e → physWrite s pa .word v = .error e)) ∧
    (regionKind s.params pa = .vi →
      physRead s pa .word = .ok ((viRead s.params s.vi (pa - 0x04400000).toNat).setWidth 64, s) ∧
      physWrite s pa .word v = .ok { s with
        vi := (viWrite s.vi s.mi (pa - 0x04400000).toNat (v.setWidth 32)).1
        mi := (viWrite s.vi s.mi (pa - 0x04400000).toNat (v.setWidth 32)).2 }) ∧
    (regionKind s.params pa ∈ [RegionKind.mi, .vi] →
      ((∃ j < w.bytes, mask.getLsbD j = false) → physWriteMasked s pa w v mask = .error .partialDeviceWrite) ∧
      ((∀ j < w.bytes, mask.getLsbD j = true) → physWriteMasked s pa w v mask = physWrite s pa w v)) ∧
    (regionKind s.params pa ∈ [RegionKind.cartRom, .pifRom] → w ≠ .word → physRead s pa w = .error .romWidth) ∧
    (regionKind s.params pa ∈ [RegionKind.cartRom, .pifRom] →
      physWrite s pa w v = .error .romWrite ∧ physWriteMasked s pa w v mask = .error .romWrite) ∧
    (regionKind s.params pa = .cartRom → pa.toNat - 0x10000000 + 4 ≤ s.romLen →
      physRead s pa .word = .ok (s.mem.readBE pa.toNat 4, s)) ∧
    (regionKind s.params pa = .cartRom → s.romLen < pa.toNat - 0x10000000 + 4 →
      physRead s pa .word = .ok (Width.word.trunc (s.params.openBusAt pa 4), s)) ∧
    (regionKind s.params pa = .pifRom → physRead s pa .word =
      .ok (if s.pifPresent then s.mem.readBE pa.toNat 4 else Width.word.trunc (s.params.openBusAt pa 4), s)) ∧
    (regionKind s.params pa = .unmapped → physRead s pa w = .ok (w.trunc (s.params.openBusAt pa w.bytes), s) ∧
      physWrite s pa w v = .ok s ∧ physWriteMasked s pa w v mask = .ok s) ∧
    (s.params.openBus = [] → w.trunc (s.params.openBusAt pa w.bytes) = 0) ∧
    (regionKind s.params pa = .external → physWrite s pa w v = .ok { s with extActive := true } ∧
      physWriteMasked s pa w v mask = .ok { s with extActive := true } ∧
      ∃ x, physRead s pa w = .ok (x, { s with draws := s.draws + 1 })) ∧
    (regionKind s.params pa = .refuse → physRead s pa w = .error .unmodelledRegion ∧
      physWrite s pa w v = .error .unmodelledRegion ∧ physWriteMasked s pa w v mask = .error .unmodelledRegion)) ∧
  (∀ (s u : State) (rt base : RegIdx) (o : BitVec 16) (pa a2 a4 a8 : Word) (k4 k8 : Nat),
    a2.toNat = pa.toNat / 2 * 2 → a4.toNat = pa.toNat / 4 * 4 → a8.toNat = pa.toNat / 8 * 8 →
    k4 = (effAddr s base o).toNat % 4 → k8 = (effAddr s base o).toNat % 8 →
    (reachesBus s false (effAddr s base o) pa u →
      (∀ v t, physRead u pa .byte = .ok (v, t) →
        exec (.lb rt o base) s = .next (advance .next (writeReg t rt ((v.setWidth 8).signExtend 64))) ∧
        exec (.lbu rt o base) s = .next (advance .next (writeReg t rt ((v.setWidth 8).setWidth 64)))) ∧
      (∀ v t, physRead u a2 .half = .ok (v, t) →
        exec (.lh rt o base) s = .next (advance .next (writeReg t rt ((v.setWidth 16).signExtend 64))) ∧
        exec (.lhu rt o base) s = .next (advance .next (writeReg t rt ((v.setWidth 16).setWidth 64)))) ∧
      (∀ v t, physRead u a4 .word = .ok (v, t) →
        exec (.lw rt o base) s = .next (advance .next (writeReg t rt ((v.setWidth 32).signExtend 64))) ∧
        exec (.lwl rt o base) s =
          .next (advance .next (writeReg t rt (sext32 (lwlWord k4 (low32 v) (low32 (readReg s rt)))))) ∧
        (k4 = 3 → exec (.lwr rt o base) s =
          .next (advance .next (writeReg t rt (sext32 (lwrWord k4 (low32 v) (low32 (readReg s rt))))))) ∧
        (k4 ≠ 3 → ∃ upper : Word, exec (.lwr rt o base) s = .next (advance .next
          (writeReg { t with draws := t.draws + 1 } rt (upper ++ lwrWord k4 (low32 v) (low32 (readReg s rt)))))) ∧
        exec (.ll rt o base) s = .next (advance .next { writeReg t rt ((v.setWidth 32).signExtend 64) with
          llbit := true, cp0 := { t.cp0 with llAddr := pa >>> 4 } }) ∧
        (ops64Enabled s = true →
          exec (.lwu rt o base) s = .next (advance .next (writeReg t rt ((v.setWidth 32).setWidth 64))))) ∧
      (ops64Enabled s = true → ∀ v t, physRead u a8 .dword = .ok (v, t) →
        exec (.ld rt o base) s = .next (advance .next (writeReg t rt v)) ∧
        exec (.ldl rt o base) s = .next (advance .next (writeReg t rt (ldlDouble k8 v (readReg s rt)))) ∧
        exec (.ldr rt o base) s = .next (advance .next (writeReg t rt (ldrDouble k8 v (readReg s rt)))) ∧
        exec (.lld rt o base) s = .next (advance .next { writeReg t rt v with
          llbit := true, cp0 := { t.cp0 with llAddr := pa >>> 4 } })) ∧
      (∀ e, physRead u pa .byte = .error e → ∀ i ∈ [Instr.lb rt o base, .lbu rt o base], exec i s = .refused e) ∧
      (∀ e, physRead u a2 .half = .error e → ∀ i ∈ [Instr.lh rt o base, .lhu rt o base], exec i s = .refused e) ∧
      (∀ e, physRead u a4 .word = .error e →
        (∀ i ∈ [Instr.lw rt o base, .lwl rt o base, .lwr rt o base, .ll rt o base], exec i s = .refused e) ∧
        (ops64Enabled s = true → exec (.lwu rt o base) s = .refused e)) ∧
      (ops64Enabled s = true → ∀ e, physRead u a8 .dword = .error e →
        ∀ i ∈ [Instr.ld rt o base, .ldl rt o base, .ldr rt o base, .lld rt o base], exec i s = .refused e)) ∧
    (reachesBus s true (effAddr s base o) pa u →
      ∀ i r, (i, r) ∈ [(Instr.sb rt o base, physWrite u pa .byte (Width.byte.trunc (readReg s rt))),
          (.sh rt o base, physWrite u a2 .half (Width.half.trunc (readReg s rt))),
          (.sw rt o base, physWrite u a4 .word (Width.word.trunc (readReg s rt))),
          (.swl rt o base, physWriteMasked u a4 .word (swlValue k4 (readReg s rt)) (byteMask k4 3)),
          (.swr rt o base, physWriteMasked u a4 .word (swrValue k4 (readReg s rt)) (byteMask 0 k4))] ∨
        (ops64Enabled s = true ∧ (i, r) ∈ [(Instr.sd rt o base, physWrite u a8 .dword (readReg s rt)),
          (.sdl rt o base, physWriteMasked u a8 .dword (sdlValue k8 (readReg s rt)) (byteMask k8 7)),
          (.sdr rt o base, physWriteMasked u a8 .dword (sdrValue k8 (readReg s rt)) (byteMask 0 k8))]) →
        (∀ t, r = .ok t → exec i s = .next (advance .next t)) ∧ (∀ e, r = .error e → exec i s = .refused e)) ∧
    (reachesBus s true (effAddr s base o) pa u → s.llbit = true →
      ∀ i r, (i, r) ∈ [(Instr.sc rt o base, physWrite u a4 .word (Width.word.trunc (readReg s rt)))] ∨
        (ops64Enabled s = true ∧ (i, r) ∈ [(Instr.scd rt o base, physWrite u a8 .dword (readReg s rt))]) →
        (∀ t, r = .ok t → exec i s = .next (advance .next (writeReg t rt 1))) ∧
        (∀ e, r = .error e → exec i s = .refused e)))

/-- The physical map (R85, R86): every physical address is claimed by exactly one region, for every legal P_RDRAM_SIZE. Which sizes are
legal is the model's choice (log entry 1). -/
def Obligations.OneRegionPerAddress : Prop :=
  ∀ p : Params, p.legal → ∀ pa : Word, ∃! r : Region, r ∈ regionTable p ∧ r.first ≤ pa.toNat ∧ pa.toNat ≤ r.last

/-! ## System instructions and CP0 -/

/-- SYSCALL, BREAK, the conditional traps and SYNC (44_system.md R239 to R254). -/
def Obligations.SystemCallsAndTraps : Prop :=
  ∀ (s : State) (a b : RegIdx) (imm : BitVec 16) (code : BitVec 20) (t : BitVec 10),
    exec (.syscall code) s = .next (takeException .sys s) ∧ exec (.brk code) s = .next (takeException .bp s) ∧
    exec .sync s = .next (advance .next s) ∧
    exec (.tge a b t) s = .next
      (if (readReg s b).toInt ≤ (readReg s a).toInt then takeException .tr s else advance .next s) ∧
    exec (.tgeu a b t) s = .next
      (if (readReg s b).toNat ≤ (readReg s a).toNat then takeException .tr s else advance .next s) ∧
    exec (.tlt a b t) s = .next
      (if (readReg s a).toInt < (readReg s b).toInt then takeException .tr s else advance .next s) ∧
    exec (.tltu a b t) s = .next
      (if (readReg s a).toNat < (readReg s b).toNat then takeException .tr s else advance .next s) ∧
    exec (.teq a b t) s = .next (if readReg s a = readReg s b then takeException .tr s else advance .next s) ∧
    exec (.tne a b t) s = .next (if readReg s a ≠ readReg s b then takeException .tr s else advance .next s) ∧
    exec (.tgei a imm) s = .next
      (if imm.toInt ≤ (readReg s a).toInt then takeException .tr s else advance .next s) ∧
    exec (.tgeiu a imm) s = .next
      (if (imm.signExtend 64).toNat ≤ (readReg s a).toNat then takeException .tr s else advance .next s) ∧
    exec (.tlti a imm) s = .next
      (if (readReg s a).toInt < imm.toInt then takeException .tr s else advance .next s) ∧
    exec (.tltiu a imm) s = .next
      (if (readReg s a).toNat < (imm.signExtend 64).toNat then takeException .tr s else advance .next s) ∧
    exec (.teqi a imm) s = .next
      (if (readReg s a).toInt = imm.toInt then takeException .tr s else advance .next s) ∧
    exec (.tnei a imm) s = .next
      (if (readReg s a).toInt ≠ imm.toInt then takeException .tr s else advance .next s)

/-- The reads of CP0 registers (R255, R257, R258): MFC0 gives the low word sign-extended, DMFC0 all 64 bits of a 64-bit register and a
free value of any other; Random is a free value from Wired to 31, or of 6 bits when Wired is above 31 (10_state.md R40). -/
def Obligations.Cp0Reads : Prop :=
  ∀ (s : State) (rt rd : RegIdx), cp0Usable s = true →
    (∀ n v, (n, v) ∈ ([(0, zext32 s.cp0.index), (2, s.cp0.entryLo0), (3, s.cp0.entryLo1), (4, s.cp0.context),
        (5, zext32 s.cp0.pageMask), (6, zext32 s.cp0.wired), (8, s.cp0.badVAddr), (9, zext32 s.cp0.count),
        (10, s.cp0.entryHi), (11, zext32 s.cp0.compare), (12, zext32 s.cp0.status), (14, s.cp0.epc), (15, zext32 s.params.prid),
        (17, zext32 s.cp0.llAddr), (18, zext32 s.cp0.watchLo), (19, zext32 s.cp0.watchHi), (20, s.cp0.xContext),
        (26, zext32 s.cp0.pErr), (27, 0), (28, zext32 s.cp0.tagLo), (29, 0), (30, s.cp0.errorEpc)] : List (RegIdx × DWord)) →
      exec (.mfc0 rt n) s = .next (advance .next (writeReg s rt ((v.setWidth 32).signExtend 64)))) ∧
    (∃ c : Word, (∀ j < 32, c.getLsbD j = if j = 15 then s.timer.pending else if j = 10 then s.mi.intr &&& s.mi.mask != 0
        else if 11 ≤ j ∧ j ≤ 14 then false else s.cp0.cause.getLsbD j) ∧
      exec (.mfc0 rt 13) s = .next (advance .next (writeReg s rt (c.signExtend 64)))) ∧
    (∃ v : Word, v &&& 0x8FFFFFFF = s.cp0.config &&& 0x8FFFFFFF ∧ v.extractLsb' 28 3 = s.params.configEC ∧
      exec (.mfc0 rt 16) s = .next (advance .next (writeReg s rt (v.signExtend 64)))) ∧
    (s.cp0.wired.toNat ≤ 31 → ∃ r : Nat, s.cp0.wired.toNat ≤ r ∧ r ≤ 31 ∧
      exec (.mfc0 rt 1) s =
        .next (advance .next (writeReg { s with draws := s.draws + 1 } rt (BitVec.ofNat 64 r)))) ∧
    (31 < (s.cp0.wired.extractLsb' 0 6).toNat → ∃ b : BitVec 6,
      exec (.mfc0 rt 1) s = .next (advance .next (writeReg { s with draws := s.draws + 1 } rt (b.setWidth 64)))) ∧
    (rd ∈ ([7, 21, 22, 23, 24, 25, 31] : List RegIdx) → ∃ w : Word,
      exec (.mfc0 rt rd) s = .next (advance .next (writeReg { s with draws := s.draws + 1 } rt (w.signExtend 64)))) ∧
    (ops64Enabled s = true →
      (∀ n v, (n, v) ∈ ([(2, s.cp0.entryLo0), (3, s.cp0.entryLo1), (4, s.cp0.context), (8, s.cp0.badVAddr),
          (10, s.cp0.entryHi), (14, s.cp0.epc), (20, s.cp0.xContext), (30, s.cp0.errorEpc)] : List (RegIdx × DWord)) →
        exec (.dmfc0 rt n) s = .next (advance .next (writeReg s rt v))) ∧
      (rd ∉ ([2, 3, 4, 8, 10, 14, 20, 30] : List RegIdx) → ∃ v : DWord,
        exec (.dmfc0 rt rd) s = .next (advance .next (writeReg { s with draws := s.draws + 1 } rt v))))

/-- The writes of CP0 registers by MTC0 and DMTC0 (R256, R259, R260), by the write rules of 10_state.md: `v` is the sign-extended low word
for MTC0, and all 64 bits for DMTC0. -/
def Obligations.Cp0Writes : Prop :=
  ∀ (s : State) (rt : RegIdx), cp0Usable s = true →
    (∀ (v : DWord) (i : RegIdx → Instr),
      ((v = ((readReg s rt).setWidth 32).signExtend 64 ∧ i = Instr.mtc0 rt) ∨
        (v = readReg s rt ∧ i = Instr.dmtc0 rt ∧ ops64Enabled s = true)) →
      exec (i 2) s = .next (advance .next { s with cp0 := { s.cp0 with entryLo0 := v &&& 0x03FFFFFF } }) ∧
      exec (i 3) s = .next (advance .next { s with cp0 := { s.cp0 with entryLo1 := v &&& 0x03FFFFFF } }) ∧
      exec (i 4) s = .next (advance .next { s with cp0 := { s.cp0 with
        context := (v &&& 0xFFFFFFFFFF800000) ||| (s.cp0.context &&& 0x007FFFF0) } }) ∧
      exec (i 10) s = .next (advance .next { s with cp0 := { s.cp0 with entryHi := v &&& 0xC00000FFFFFFE0FF } }) ∧
      exec (i 14) s = .next (advance .next { s with cp0 := { s.cp0 with epc := v } }) ∧
      exec (i 20) s = .next (advance .next { s with cp0 := { s.cp0 with
        xContext := (v &&& 0xFFFFFFFE00000000) ||| (s.cp0.xContext &&& 0x1FFFFFFF0) } }) ∧
      exec (i 30) s = .next (advance .next { s with cp0 := { s.cp0 with errorEpc := v } }) ∧
      (∀ n ∈ ([8, 7, 21, 22, 23, 24, 25, 31] : List RegIdx), exec (i n) s = .next (advance .next s))) ∧
    (∀ w : Word, w = (readReg s rt).setWidth 32 →
      exec (.mtc0 rt 0) s = .next (advance .next { s with cp0 := { s.cp0 with index := w &&& 0x8000003F } }) ∧
      exec (.mtc0 rt 5) s = .next (advance .next { s with cp0 := { s.cp0 with pageMask := w &&& 0x01FFE000 } }) ∧
      exec (.mtc0 rt 6) s = .next (advance .next { s with cp0 := { s.cp0 with wired := w &&& 0x3F } }) ∧
      exec (.mtc0 rt 9) s = .next (advance .next { s with cp0 := { s.cp0 with count := w } }) ∧
      exec (.mtc0 rt 11) s = .next (advance .next { s with
        cp0 := { s.cp0 with compare := w }, timer := { s.timer with pending := false } }) ∧
      (w.extractLsb' 3 2 ≠ 3 →
        exec (.mtc0 rt 12) s = .next (advance .next { s with cp0 := { s.cp0 with status := w &&& 0xFF57FFFF } })) ∧
      (w.extractLsb' 3 2 = 3 → exec (.mtc0 rt 12) s = .refused .unpredictableMode) ∧
      exec (.mtc0 rt 13) s = .next (advance .next { s with cp0 := { s.cp0 with
        cause := (s.cp0.cause &&& 0xFFFFFCFF) ||| (w &&& 0x300) } }) ∧
      (w.getLsbD 15 = true → exec (.mtc0 rt 16) s = .next (advance .next { s with cp0 := { s.cp0 with
        config := (s.cp0.config &&& 0xF0FF7FF0) ||| (w &&& 0x0F00800F) } })) ∧
      (w.getLsbD 15 = false → exec (.mtc0 rt 16) s = .refused .littleEndianConfig) ∧
      exec (.mtc0 rt 17) s = .next (advance .next { s with cp0 := { s.cp0 with llAddr := w } }) ∧
      exec (.mtc0 rt 18) s = .next (advance .next { s with cp0 := { s.cp0 with watchLo := w &&& 0xFFFFFFFB } }) ∧
      exec (.mtc0 rt 19) s = .next (advance .next { s with cp0 := { s.cp0 with watchHi := w &&& 0xF } }) ∧
      exec (.mtc0 rt 26) s = .next (advance .next { s with cp0 := { s.cp0 with pErr := w &&& 0xFF } }) ∧
      exec (.mtc0 rt 28) s = .next (advance .next { s with cp0 := { s.cp0 with tagLo := w &&& 0x0FFFFFC0 } }) ∧
      (∀ n ∈ ([1, 15, 27, 29] : List RegIdx), exec (.mtc0 rt n) s = .next (advance .next s))) ∧
    (ops64Enabled s = true →
      ∀ n ∈ ([0, 1, 5, 6, 9, 11, 12, 13, 15, 16, 17, 18, 19, 26, 27, 28, 29] : List RegIdx),
        exec (.dmtc0 rt n) s = .refused .dmtc0To32BitRegister)

/-- The disabled instructions (30_encoding.md R118, 44_system.md R238, 60_exceptions.md R296, R297): where 64-bit operations are disabled
each 64-bit operation takes Reserved Instruction; where CP0 is not usable each privileged instruction takes Coprocessor Unusable
with CE = 0; DMFC0 and DMTC0 where CP0 is usable and 64-bit operations are disabled take Reserved Instruction (R258, R260). -/
def Obligations.DisabledInstructionsTrap : Prop :=
  (∀ (s : State) (d a b : RegIdx) (sa : BitVec 5) (imm : BitVec 16), ops64Enabled s = false →
    ∀ i ∈ [Instr.dadd d a b, .daddu d a b, .dsub d a b, .dsubu d a b, .daddi d a imm, .daddiu d a imm, .dsll d a sa,
        .dsrl d a sa, .dsra d a sa, .dsll32 d a sa, .dsrl32 d a sa, .dsra32 d a sa, .dsllv d a b, .dsrlv d a b,
        .dsrav d a b, .dmult a b, .dmultu a b, .ddiv a b, .ddivu a b, .ld d imm a, .ldl d imm a, .ldr d imm a,
        .lwu d imm a, .lld d imm a, .sd d imm a, .sdl d imm a, .sdr d imm a, .scd d imm a],
      exec i s = .next (takeException .ri s)) ∧
  (∀ (i : Instr) (s : State), privileged i = true → cp0Usable s = false → exec i s = .next (takeException (.cpU 0) s)) ∧
  (∀ (s : State) (rt rd : RegIdx), cp0Usable s = true → ops64Enabled s = false →
    exec (.dmfc0 rt rd) s = .next (takeException .ri s) ∧ exec (.dmtc0 rt rd) s = .next (takeException .ri s))

/-- The coprocessor 1 and 2 words (45_coprocessor.md R269 to R279): with Status.CUz = 0 each takes Coprocessor Unusable with CE = z, in
every mode; with Status.CUz = 1 it is refused. -/
def Obligations.CoprocessorsUnusable : Prop :=
  ∀ (s : State) (b : BitVec 26) (r base : RegIdx) (o : BitVec 16),
    (∀ i ∈ [Instr.cop1 b, .lwc1 r o base, .ldc1 r o base, .swc1 r o base, .sdc1 r o base],
      (statusCU s 1 = false → exec i s = .next (takeException (.cpU 1) s)) ∧
      (statusCU s 1 = true → exec i s = .refused .fpuNotModelled)) ∧
    (∀ i ∈ [Instr.cop2 b, .lwc2 r o base, .ldc2 r o base, .swc2 r o base, .sdc2 r o base],
      (statusCU s 2 = false → exec i s = .next (takeException (.cpU 2) s)) ∧
      (statusCU s 2 = true → exec i s = .refused .noCoprocessor2))

/-- TLBR and TLBWI (44_system.md R261 to R263): where CP0 is usable and Index is at most 31, TLBR writes PageMask, EntryHi and the EntryLo
pair from the entry, whatever it holds, and nothing else; with a legal PageMask TLBWI completes, changes no other entry, and reading the
entry back gives PageMask, EntryHi and the EntryLo pair as written, the G bit of each the AND of the two. An Index above 31 and an
illegal PageMask are refused. -/
def Obligations.TlbWriteThenRead : Prop :=
  (∀ (s : State) (n : Nat), cp0Usable s = true → s.cp0.fieldsLegal → legalMask (s.cp0.pageMask.extractLsb' 13 12) = true →
    (s.cp0.index.extractLsb' 0 6).toNat = n → ∀ h : n < 32,
    ∃ t u, exec .tlbwi s = .next t ∧ exec .tlbr t = .next u ∧
      t.cp0 = s.cp0 ∧ (∀ j, ∀ hj : j < 32, j ≠ n → t.tlb[j] = s.tlb[j]) ∧ t.pc = s.nextPc ∧
      u = advance .next { t with cp0 := { s.cp0 with
        entryLo0 := (s.cp0.entryLo0 &&& 0xFFFFFFFFFFFFFFFE) ||| (s.cp0.entryLo0 &&& s.cp0.entryLo1 &&& 1)
        entryLo1 := (s.cp0.entryLo1 &&& 0xFFFFFFFFFFFFFFFE) ||| (s.cp0.entryLo0 &&& s.cp0.entryLo1 &&& 1) } }) ∧
  (∀ (s : State) (n : Nat), cp0Usable s = true → (s.cp0.index.extractLsb' 0 6).toNat = n → ∀ h : n < 32,
    ∃ c : Cp0, exec .tlbr s = .next (advance .next { s with cp0 := c }) ∧
      c = { s.cp0 with pageMask := c.pageMask, entryHi := c.entryHi, entryLo0 := c.entryLo0, entryLo1 := c.entryLo1 } ∧
      c.pageMask.extractLsb' 13 12 = s.tlb[n].mask ∧ c.pageMask &&& 0xFE001FFF = 0 ∧
      c.entryHi.extractLsb' 62 2 = s.tlb[n].r ∧ c.entryHi.extractLsb' 13 27 = s.tlb[n].vpn2 ∧
      c.entryHi.extractLsb' 0 8 = s.tlb[n].asid ∧ c.entryHi &&& 0x3FFFFF0000001F00 = 0 ∧
      ∀ lo page, (lo, page) ∈ [(c.entryLo0, s.tlb[n].even), (c.entryLo1, s.tlb[n].odd)] →
        lo.extractLsb' 6 20 = page.pfn ∧ lo.extractLsb' 3 3 = page.c ∧ lo.getLsbD 2 = page.d ∧ lo.getLsbD 1 = page.v ∧
        lo.getLsbD 0 = s.tlb[n].g ∧ lo &&& 0xFFFFFFFFFC000000 = 0) ∧
  (∀ s : State, cp0Usable s = true →
    (32 ≤ (s.cp0.index.extractLsb' 0 6).toNat →
      exec .tlbr s = .refused .tlbIndexOutOfRange ∧ exec .tlbwi s = .refused .tlbIndexOutOfRange) ∧
    ((s.cp0.index.extractLsb' 0 6).toNat < 32 → legalMask (s.cp0.pageMask.extractLsb' 13 12) = false →
      exec .tlbwi s = .refused .illegalPageMask) ∧
    (∀ m : BitVec 12, legalMask m = true ↔ m ∈ ([0x000, 0x003, 0x00F, 0x03F, 0x0FF, 0x3FF, 0xFFF] : List (BitVec 12))))

/-- TLBWR and TLBP (R264, R265): TLBWR writes some entry from Wired to 31, and is refused with Wired above 31 or an illegal PageMask; TLBP records the one matching entry, or a failure with free
index bits when there is none, and is refused when there are several. -/
def Obligations.TlbRandomAndProbe : Prop :=
  ∀ s : State, cp0Usable s = true →
    (legalMask (s.cp0.pageMask.extractLsb' 13 12) = true → (s.cp0.wired.extractLsb' 0 6).toNat ≤ 31 →
      ∃ (i : Nat) (h : i < 32), (s.cp0.wired.extractLsb' 0 6).toNat ≤ i ∧
        exec .tlbwr s = .next (advance .next { s with
          draws := s.draws + 1, tlb := s.tlb.set i (entryOfCp0 s.cp0) h })) ∧
    (32 ≤ (s.cp0.wired.extractLsb' 0 6).toNat → exec .tlbwr s = .refused .wiredOutOfRange) ∧
    (legalMask (s.cp0.pageMask.extractLsb' 13 12) = false → (s.cp0.wired.extractLsb' 0 6).toNat ≤ 31 →
      exec .tlbwr s = .refused .illegalPageMask) ∧
    (∀ i : Fin 32, tlbHits s s.cp0.entryHi = [i] →
      exec .tlbp s = .next (advance .next { s with cp0 := { s.cp0 with index := BitVec.ofNat 32 i.val } })) ∧
    (tlbHits s s.cp0.entryHi = [] → ∃ b : BitVec 6,
      exec .tlbp s = .next (advance .next { s with
        draws := s.draws + 1, cp0 := { s.cp0 with index := 0x80000000 ||| b.setWidth 32 } })) ∧
    (∀ i j : Fin 32, i ≠ j → i ∈ tlbHits s s.cp0.entryHi → j ∈ tlbHits s s.cp0.entryHi →
      exec .tlbp s = .refused .tlbMultipleMatch)

/-- CACHE (R267): a secondary cache is refused before any translation; the address is translated as a load's, and an exception or refusal of
the translation ends the instruction; no watch is checked. With the checker off the operations that have no effect complete with
none, Index Load Tag draws TagLo, Create Dirty Exclusive draws the 16 bytes of a RAM line, and the reserved operations are
refused. The count of draws is the model's (log entries 3 and 20). -/
def Obligations.CacheWithoutChecker : Prop :=
  (∀ (s : State) (base : RegIdx) (o : BitVec 16) (op : BitVec 5), cp0Usable s = true →
    (2 ≤ (op.extractLsb' 0 2).toNat → exec (.cache op o base) s = .refused .noSuchCache) ∧
    ((op.extractLsb' 0 2).toNat < 2 →
      (∀ e s', Machine.translate (effAddr s base o) .load s = .error (.raise e s') →
        exec (.cache op o base) s = .next (takeException e s)) ∧
      (∀ r, Machine.translate (effAddr s base o) .load s = .error (.refuse r) → exec (.cache op o base) s = .refused r))) ∧
  (∀ (s : State) (base : RegIdx) (o : BitVec 16) (pa : Word) (cached : Bool), cp0Usable s = true → s.params.cacheCheck = false →
    Machine.translate (effAddr s base o) .load s = .ok (pa, cached) →
    (∀ op ∈ ([0x01, 0x11, 0x15, 0x19, 0x00, 0x10, 0x14, 0x18] : List (BitVec 5)),
      exec (.cache op o base) s = .next (advance .next s)) ∧
    (∀ op ∈ ([0x09, 0x08] : List (BitVec 5)),
      (s.cp0.tagLo.extractLsb' 6 2 = 0 → exec (.cache op o base) s = .next (advance .next s)) ∧
      (s.cp0.tagLo.extractLsb' 6 2 ≠ 0 → exec (.cache op o base) s = .refused .tagState)) ∧
    (∀ op ∈ ([0x05, 0x04] : List (BitVec 5)), ∃ w : Word,
      exec (.cache op o base) s = .next (advance .next { s with
        draws := s.draws + 1, cp0 := { s.cp0 with tagLo := w &&& 0x0FFFFFC0 } })) ∧
    (regionKind s.params pa = .ram → ∃ m : Memory,
      exec (.cache 0x0D o base) s = .next (advance .next { s with draws := s.draws + 2, mem := m }) ∧
      ∀ a, (a < pa.toNat / 16 * 16 ∨ pa.toNat / 16 * 16 + 16 ≤ a) → m.read a = s.mem.read a) ∧
    (regionKind s.params pa ≠ .ram → exec (.cache 0x0D o base) s = .refused .cacheState) ∧
    (∀ op ∈ ([0x0C, 0x1C, 0x1D] : List (BitVec 5)), exec (.cache op o base) s = .refused .reservedCacheOp))

/-- The cache checker with P_CACHE_CHECK = On (20_memory.md R101, 44_system.md R267): what each access and each CACHE operation refuses, and
which lines and indices each set holds after it. `D` and `I` are the data and instruction line of the address; a line's index is
its low 9 bits. An external write to a dirty line is refused, and makes a present line stale. -/
def Obligations.CacheChecker : Prop :=
  (∀ (s : State) (pa : Word) (kind : AccessKind) (c : CacheSets) (D : BitVec 28) (I : BitVec 27),
    s.params.cacheCheck = true → c = s.cache → D = pa.extractLsb' 4 28 → I = pa.extractLsb' 5 27 →
    (kind ≠ .fetch →
      ((D.setWidth 9 ∉ c.dcInit ∨ D ∈ c.dcStale) → cacheCheck pa kind true s = .error .cacheState) ∧
      (D.setWidth 9 ∈ c.dcInit → D ∉ c.dcStale → ∃ d, cacheCheck pa kind true s = .ok { s with cache := d } ∧
        d = { c with dcPresent := d.dcPresent, dcDirty := d.dcDirty, dcStale := d.dcStale, icStale := d.icStale } ∧
        (∀ x, x ∈ d.dcPresent ↔ x = D ∨ (x ∈ c.dcPresent ∧ x.setWidth 9 ≠ D.setWidth 9)) ∧
        (∀ x, x ∈ d.dcDirty ↔ (kind = .store ∧ x = D) ∨ (x ∈ c.dcDirty ∧ (x = D ∨ x.setWidth 9 ≠ D.setWidth 9))) ∧
        (∀ x, x ∈ d.dcStale ↔ x ∈ c.dcStale ∧ x.setWidth 9 ≠ D.setWidth 9) ∧
        (∀ x, x ∈ d.icStale ↔ (kind = .store ∧ x = I ∧ I ∈ c.icPresent) ∨ x ∈ c.icStale)) ∧
      (D ∈ c.dcDirty → cacheCheck pa kind false s = .error .cacheState) ∧
      (D ∉ c.dcDirty → ∃ d, cacheCheck pa kind false s = .ok { s with cache := d } ∧
        d = { c with dcStale := d.dcStale, icStale := d.icStale } ∧
        (∀ x, x ∈ d.dcStale ↔ (kind = .store ∧ x = D ∧ D ∈ c.dcPresent) ∨ x ∈ c.dcStale) ∧
        (∀ x, x ∈ d.icStale ↔ (kind = .store ∧ x = I ∧ I ∈ c.icPresent) ∨ x ∈ c.icStale))) ∧
    (∀ cached, (I ++ (0 : BitVec 1) ∈ c.dcDirty ∨ I ++ (1 : BitVec 1) ∈ c.dcDirty) →
      cacheCheck pa .fetch cached s = .error .cacheState) ∧
    (I ++ (0 : BitVec 1) ∉ c.dcDirty → I ++ (1 : BitVec 1) ∉ c.dcDirty →
      cacheCheck pa .fetch false s = .ok s ∧
      ((I.setWidth 9 ∉ c.icInit ∨ I ∈ c.icStale) → cacheCheck pa .fetch true s = .error .cacheState) ∧
      (I.setWidth 9 ∈ c.icInit → I ∉ c.icStale → ∃ d, cacheCheck pa .fetch true s = .ok { s with cache := d } ∧
        d = { c with icPresent := d.icPresent, icStale := d.icStale } ∧
        (∀ x, x ∈ d.icPresent ↔ x = I ∨ (x ∈ c.icPresent ∧ x.setWidth 9 ≠ I.setWidth 9)) ∧
        (∀ x, x ∈ d.icStale ↔ x ∈ c.icStale ∧ x.setWidth 9 ≠ I.setWidth 9)))) ∧
  (∀ (s : State) (base : RegIdx) (o : BitVec 16) (pa : Word) (cached : Bool) (c : CacheSets) (D : BitVec 28) (I : BitVec 27),
    cp0Usable s = true → s.params.cacheCheck = true → Machine.translate (effAddr s base o) .load s = .ok (pa, cached) →
    c = s.cache → D = pa.extractLsb' 4 28 → I = pa.extractLsb' 5 27 →
    (∀ op ∈ ([0x01, 0x09] : List (BitVec 5)), (op = 0x09 → s.cp0.tagLo.extractLsb' 6 2 = 0) →
      (op = 0x09 → ∀ x ∈ c.dcDirty, x.setWidth 9 ≠ D.setWidth 9) →
      ∃ d, exec (.cache op o base) s = .next (advance .next { s with cache := d }) ∧
        d = { c with dcPresent := d.dcPresent, dcDirty := d.dcDirty, dcStale := d.dcStale, dcInit := d.dcInit } ∧
        (∀ x, x ∈ d.dcPresent ↔ x ∈ c.dcPresent ∧ x.setWidth 9 ≠ D.setWidth 9) ∧
        (∀ x, x ∈ d.dcDirty ↔ x ∈ c.dcDirty ∧ x.setWidth 9 ≠ D.setWidth 9) ∧
        (∀ x, x ∈ d.dcStale ↔ x ∈ c.dcStale ∧ x.setWidth 9 ≠ D.setWidth 9) ∧
        (∀ x, x ∈ d.dcInit ↔ x = D.setWidth 9 ∨ x ∈ c.dcInit)) ∧
    (s.cp0.tagLo.extractLsb' 6 2 = 0 → (∃ x ∈ c.dcDirty, x.setWidth 9 = D.setWidth 9) →
      exec (.cache 0x09 o base) s = .refused .cacheState) ∧
    (∀ op ∈ ([0x09, 0x08] : List (BitVec 5)), s.cp0.tagLo.extractLsb' 6 2 ≠ 0 → exec (.cache op o base) s = .refused .tagState) ∧
    (∀ op ∈ ([0x05, 0x04] : List (BitVec 5)), ∃ w : Word,
      exec (.cache op o base) s = .next (advance .next { s with
        draws := s.draws + 1, cp0 := { s.cp0 with tagLo := w &&& 0x0FFFFFC0 } })) ∧
    (regionKind s.params pa = .ram → ∃ m d,
      exec (.cache 0x0D o base) s = .next (advance .next { s with draws := s.draws + 2, mem := m, cache := d }) ∧
        d = { c with dcPresent := d.dcPresent, dcDirty := d.dcDirty, dcStale := d.dcStale, dcInit := d.dcInit } ∧
        (∀ x, x ∈ d.dcPresent ↔ x = D ∨ (x ∈ c.dcPresent ∧ x.setWidth 9 ≠ D.setWidth 9)) ∧
        (∀ x, x ∈ d.dcDirty ↔ x = D ∨ (x ∈ c.dcDirty ∧ x.setWidth 9 ≠ D.setWidth 9)) ∧
        (∀ x, x ∈ d.dcStale ↔ x ∈ c.dcStale ∧ x.setWidth 9 ≠ D.setWidth 9) ∧
        (∀ x, x ∈ d.dcInit ↔ x = D.setWidth 9 ∨ x ∈ c.dcInit)) ∧
    (regionKind s.params pa ≠ .ram → exec (.cache 0x0D o base) s = .refused .cacheState) ∧
    (D ∈ c.dcDirty → exec (.cache 0x11 o base) s = .refused .cacheState) ∧
    (∀ op ∈ ([0x11, 0x15, 0x19] : List (BitVec 5)), (op = 0x11 → D ∉ c.dcDirty) →
      ∃ d, exec (.cache op o base) s = .next (advance .next { s with cache := d }) ∧
        d = { c with dcPresent := d.dcPresent, dcDirty := d.dcDirty, dcStale := d.dcStale } ∧
        (∀ x, x ∈ d.dcPresent ↔ x ∈ c.dcPresent ∧ (op = 0x19 ∨ x ≠ D)) ∧
        (∀ x, x ∈ d.dcDirty ↔ x ∈ c.dcDirty ∧ x ≠ D) ∧
        (∀ x, x ∈ d.dcStale ↔ x ∈ c.dcStale ∧ (op = 0x19 ∨ x ≠ D))) ∧
    (∀ op ∈ ([0x00, 0x08] : List (BitVec 5)), (op = 0x08 → s.cp0.tagLo.extractLsb' 6 2 = 0) →
      ∃ d, exec (.cache op o base) s = .next (advance .next { s with cache := d }) ∧
        d = { c with icPresent := d.icPresent, icStale := d.icStale, icInit := d.icInit } ∧
        (∀ x, x ∈ d.icPresent ↔ x ∈ c.icPresent ∧ x.setWidth 9 ≠ I.setWidth 9) ∧
        (∀ x, x ∈ d.icStale ↔ x ∈ c.icStale ∧ x.setWidth 9 ≠ I.setWidth 9) ∧
        (∀ x, x ∈ d.icInit ↔ x = I.setWidth 9 ∨ x ∈ c.icInit)) ∧
    (∃ d, exec (.cache 0x10 o base) s = .next (advance .next { s with cache := d }) ∧
        d = { c with icPresent := d.icPresent, icStale := d.icStale } ∧
        (∀ x, x ∈ d.icPresent ↔ x ∈ c.icPresent ∧ x ≠ I) ∧ (∀ x, x ∈ d.icStale ↔ x ∈ c.icStale ∧ x ≠ I)) ∧
    ((I ++ (0 : BitVec 1) ∈ c.dcDirty ∨ I ++ (1 : BitVec 1) ∈ c.dcDirty) →
      exec (.cache 0x14 o base) s = .refused .cacheState) ∧
    (I ++ (0 : BitVec 1) ∉ c.dcDirty → I ++ (1 : BitVec 1) ∉ c.dcDirty →
      ∃ d, exec (.cache 0x14 o base) s = .next (advance .next { s with cache := d }) ∧
        d = { c with icPresent := d.icPresent, icStale := d.icStale, icInit := d.icInit } ∧
        (∀ x, x ∈ d.icPresent ↔ x = I ∨ (x ∈ c.icPresent ∧ x.setWidth 9 ≠ I.setWidth 9)) ∧
        (∀ x, x ∈ d.icStale ↔ x ∈ c.icStale ∧ x.setWidth 9 ≠ I.setWidth 9) ∧
        (∀ x, x ∈ d.icInit ↔ x = I.setWidth 9 ∨ x ∈ c.icInit)) ∧
    exec (.cache 0x18 o base) s = .next (advance .next s) ∧
    (∀ op ∈ ([0x0C, 0x1C, 0x1D] : List (BitVec 5)), exec (.cache op o base) s = .refused .reservedCacheOp)) ∧
  (∀ (a : Nat) (c : CacheSets) (D : BitVec 28) (I : BitVec 27), a < 2 ^ 32 →
    D = (BitVec.ofNat 32 a).extractLsb' 4 28 → I = (BitVec.ofNat 32 a).extractLsb' 5 27 →
    (D ∈ c.dcDirty → externalCheck a c = .error .cacheState) ∧
    (D ∉ c.dcDirty → ∃ d, externalCheck a c = .ok d ∧ d = { c with dcStale := d.dcStale, icStale := d.icStale } ∧
      (∀ x, x ∈ d.dcStale ↔ (x = D ∧ D ∈ c.dcPresent) ∨ x ∈ c.dcStale) ∧
      (∀ x, x ∈ d.icStale ↔ (x = I ∧ I ∈ c.icPresent) ∨ x ∈ c.icStale)))

/-! ## Exceptions -/

/-- The exception vectors (60_exceptions.md R288). -/
def Obligations.ExceptionVectors : Prop :=
  ∀ exl a64 : Bool,
    exceptionVector true false false false = 0xFFFFFFFF80000000 ∧ exceptionVector true false false true = 0xFFFFFFFF80000080 ∧
    exceptionVector true false true false = 0xFFFFFFFFBFC00200 ∧ exceptionVector true false true true = 0xFFFFFFFFBFC00280 ∧
    exceptionVector false exl false a64 = 0xFFFFFFFF80000180 ∧ exceptionVector false exl true a64 = 0xFFFFFFFFBFC00380 ∧
    exceptionVector true true false a64 = 0xFFFFFFFF80000180 ∧ exceptionVector true true true a64 = 0xFFFFFFFFBFC00380

/-- Exception entry (60_exceptions.md R282, R286, R288, R289): what it writes in Cause, EPC, BadVAddr, Status, pc and next_pc, for every
exception, each with its ExcCode; Address Error and the TLB exceptions write BadVAddr with their address and no other exception
writes it; only a TLB Refill uses the refill vectors; CE of another exception than Coprocessor Unusable is a free value. -/
def Obligations.ExceptionEntryWrites : Prop :=
  ∀ (e : Exc) (s t : State), t = exceptionEntry e s →
    (statusEXL s = false → s.inDelaySlot = false → t.cp0.epc = s.pc ∧ t.cp0.cause.getLsbD 31 = false) ∧
    (statusEXL s = false → s.inDelaySlot = true → t.cp0.epc = s.pc - 4 ∧ t.cp0.cause.getLsbD 31 = true) ∧
    (statusEXL s = true → t.cp0.epc = s.cp0.epc ∧ t.cp0.cause.getLsbD 31 = s.cp0.cause.getLsbD 31) ∧
    t.cp0.cause.extractLsb' 2 5 = e.name.code ∧ (∀ ce, e = .cpU ce → t.cp0.cause.extractLsb' 28 2 = ce) ∧
    (∀ n : BitVec 5, (e, n) ∈ ([(.int, 0), (.sys, 8), (.bp, 9), (.ri, 10), (.ov, 12), (.tr, 13), (.watch, 23)] : List _) →
      t.cp0.cause.extractLsb' 2 5 = n ∧ t.cp0.badVAddr = s.cp0.badVAddr) ∧
    (∀ ce, e = .cpU ce → t.cp0.cause.extractLsb' 2 5 = 11 ∧ t.cp0.badVAddr = s.cp0.badVAddr) ∧
    (∀ (va : DWord) (n : BitVec 5), (e, n) ∈ ([(.tlbModified va, 1), (.tlbRefill false va, 2), (.tlbInvalid false va, 2),
        (.tlbRefill true va, 3), (.tlbInvalid true va, 3), (.addressError false va, 4), (.addressError true va, 5)] : List _) →
      t.cp0.cause.extractLsb' 2 5 = n ∧ t.cp0.badVAddr = va) ∧
    t.cp0.cause.extractLsb' 8 2 = s.cp0.cause.extractLsb' 8 2 ∧
    t.cp0.status = s.cp0.status ||| 2 ∧
    t.cp0.badVAddr = e.badVAddr.getD s.cp0.badVAddr ∧
    (∀ refill, (refill = true ↔ ∃ store va, e = .tlbRefill store va) →
      t.pc = exceptionVector refill (statusEXL s) (statusBEV s) (addr64 s (currentMode s))) ∧
    t.nextPc = t.pc + 4 ∧ t.inDelaySlot = false ∧ currentMode t = .kernel ∧
    t.regs = s.regs ∧ t.hi = s.hi ∧ t.lo = s.lo ∧ t.llbit = s.llbit ∧ t.mem = s.mem ∧ t.tlb = s.tlb ∧ t.mi = s.mi ∧
    t.vi = s.vi ∧ t.timer = s.timer ∧ t.cycles = s.cycles

/-- What the TLB exceptions record (R290): BadVPN2 and R of Context and XContext and R and VPN2 of EntryHi, from the address; PTEBase and
ASID are unchanged; an Address Error writes none of these. -/
def Obligations.TlbExceptionsRecord : Prop :=
  ∀ (s : State) (va : DWord) (store : Bool) (e : Exc) (t : State), t = exceptionEntry e s →
    (e = .tlbRefill store va ∨ e = .tlbInvalid store va ∨ e = .tlbModified va →
      t.cp0.context.extractLsb' 4 19 = va.extractLsb' 13 19 ∧
      t.cp0.context.extractLsb' 23 41 = s.cp0.context.extractLsb' 23 41 ∧
      t.cp0.xContext.extractLsb' 4 27 = va.extractLsb' 13 27 ∧ t.cp0.xContext.extractLsb' 31 2 = va.extractLsb' 62 2 ∧
      t.cp0.xContext.extractLsb' 33 31 = s.cp0.xContext.extractLsb' 33 31 ∧
      t.cp0.entryHi.extractLsb' 62 2 = va.extractLsb' 62 2 ∧ t.cp0.entryHi.extractLsb' 13 27 = va.extractLsb' 13 27 ∧
      t.cp0.entryHi.extractLsb' 0 8 = s.cp0.entryHi.extractLsb' 0 8) ∧
    (e = .addressError store va →
      t.cp0.context = s.cp0.context ∧ t.cp0.xContext = s.cp0.xContext ∧ t.cp0.entryHi = s.cp0.entryHi)

/-- Every exception an instruction takes is precise (60_exceptions.md R280): the general registers, HI, LO, LLbit, memory, the TLB, the
devices and every CP0 register that entry does not write are as before the instruction, and the core is in kernel mode. -/
def Obligations.ExceptionsArePrecise : Prop :=
  ∀ (i : Instr) (s t : State), s.stepFault = none → exec i s = .next t → t.stepFault ≠ none →
    t.regs = s.regs ∧ t.hi = s.hi ∧ t.lo = s.lo ∧ t.llbit = s.llbit ∧ t.mem = s.mem ∧ t.tlb = s.tlb ∧ t.mi = s.mi ∧
    t.vi = s.vi ∧ t.timer = s.timer ∧ t.cache = s.cache ∧ t.extActive = s.extActive ∧ t.cycles = s.cycles ∧
    t.cp0 = { s.cp0 with
      status := t.cp0.status, cause := t.cp0.cause, epc := t.cp0.epc, badVAddr := t.cp0.badVAddr,
      context := t.cp0.context, xContext := t.cp0.xContext, entryHi := t.cp0.entryHi } ∧
    t.cp0.status = s.cp0.status ||| 2 ∧ currentMode t = .kernel ∧
    t.pc ∈ ([0xFFFFFFFF80000000, 0xFFFFFFFF80000080, 0xFFFFFFFF80000180, 0xFFFFFFFFBFC00200, 0xFFFFFFFFBFC00280,
      0xFFFFFFFFBFC00380] : List DWord) ∧ t.nextPc = t.pc + 4 ∧ t.inDelaySlot = false

/-- ERET (44_system.md R266): where CP0 is usable it returns to ErrorEPC and clears ERL when ERL = 1, else to EPC and clears EXL; it
clears LLbit and has no delay slot. -/
def Obligations.EretResult : Prop :=
  ∀ s : State, cp0Usable s = true →
    (statusERL s = true → exec .eret s = .next { s with
      cp0 := { s.cp0 with status := s.cp0.status &&& 0xFFFFFFFB }, llbit := false, pc := s.cp0.errorEpc,
      nextPc := s.cp0.errorEpc + 4, inDelaySlot := false }) ∧
    (statusERL s = false → exec .eret s = .next { s with
      cp0 := { s.cp0 with status := s.cp0.status &&& 0xFFFFFFFD }, llbit := false, pc := s.cp0.epc,
      nextPc := s.cp0.epc + 4, inDelaySlot := false })

/-- Entry and return (R286, R287, R266): an exception taken with EXL = ERL = 0 outside a delay slot, returned from at once by ERET, brings
back the pc, Status and the mode, and leaves LLbit clear; inside a delay slot ERET goes to the branch. -/
def Obligations.ReturnAfterEntry : Prop :=
  ∀ (e : Exc) (s : State), statusEXL s = false → statusERL s = false →
    ∃ t, exec .eret (exceptionEntry e s) = .next t ∧ t.pc = (if s.inDelaySlot then s.pc - 4 else s.pc) ∧
      t.cp0.status = s.cp0.status ∧ currentMode t = currentMode s ∧ t.llbit = false ∧ t.regs = s.regs ∧ t.mem = s.mem

/-- In supervisor or user mode without Status.CU0 no instruction changes the TLB or the timer, and none that stays outside kernel mode
changes a CP0 register other than LLAddr (60_exceptions.md R294, R295): the mode is left only by an exception. -/
def Obligations.UnprivilegedCannotChangeCp0 : Prop :=
  ∀ (i : Instr) (s t : State), currentMode s ≠ .kernel → statusCU s 0 = false → exec i s = .next t →
    t.tlb = s.tlb ∧ t.timer = s.timer ∧
    (currentMode t = currentMode s ∧ t.cp0 = { s.cp0 with llAddr := t.cp0.llAddr } ∨
     currentMode t = .kernel ∧ statusEXL t = true ∧ t.pc = t.nextPc - 4 ∧ t.regs = s.regs)

/-! ## Interrupts and devices -/

/-- The interrupt check (60_exceptions.md R298, R299): an interrupt is taken exactly when the core runs, IE = 1, EXL = ERL = 0 and some
pending line is enabled; the lines are the timer, the MI and the two software bits. -/
def Obligations.InterruptCheckRule : Prop :=
  ∀ s : State, s.refused = none →
    (interruptCheck s = exceptionEntry .int s ↔ interruptDue s = true) ∧
    (interruptDue s = false → interruptCheck s = s) ∧
    (interruptDue s = true ↔
      s.core = .running ∧ statusIE s = true ∧ statusEXL s = false ∧ statusERL s = false ∧
      ((s.timer.pending = true ∧ s.cp0.status.getLsbD 15 = true) ∨
       (s.mi.intr &&& s.mi.mask ≠ 0 ∧ s.cp0.status.getLsbD 10 = true) ∨
       (s.cp0.cause.getLsbD 9 = true ∧ s.cp0.status.getLsbD 9 = true) ∨
       (s.cp0.cause.getLsbD 8 = true ∧ s.cp0.status.getLsbD 8 = true)))

/-- The MI registers (R302 to R304): what each reads, and that each mask bit is cleared by its clear bit and set by its set bit, a write
of both being refused. -/
def Obligations.MiRegisters : Prop :=
  ∀ (p : Params) (m : Mi) (v : Word),
    miRead p m 4 = p.miVersion ∧ miRead p m 8 = m.intr.setWidth 32 ∧ miRead p m 12 = m.mask.setWidth 32 ∧
    (∀ j < 32, (miRead p m 0).getLsbD j = if j < 7 then m.initLength.getLsbD j else if j = 7 then m.initMode
      else if j = 8 then m.ebusTest else if j = 9 then m.rdramRegMode else false) ∧
    miWrite m 4 v = .ok m ∧ miWrite m 8 v = .ok m ∧
    ((∃ k < 6, v.getLsbD (2 * k) = true ∧ v.getLsbD (2 * k + 1) = true) → miWrite m 12 v = .error .miSetAndClear) ∧
    ((∀ k < 6, ¬ (v.getLsbD (2 * k) = true ∧ v.getLsbD (2 * k + 1) = true)) →
      ∃ m', miWrite m 12 v = .ok m' ∧ m' = { m with mask := m'.mask } ∧
        ∀ k < 6, m'.mask.getLsbD k =
          if v.getLsbD (2 * k + 1) then true else if v.getLsbD (2 * k) then false else m.mask.getLsbD k) ∧
    (((v.getLsbD 7 && v.getLsbD 8) || (v.getLsbD 9 && v.getLsbD 10) || (v.getLsbD 12 && v.getLsbD 13)) = true →
      miWrite m 0 v = .error .miSetAndClear) ∧
    (((v.getLsbD 7 && v.getLsbD 8) || (v.getLsbD 9 && v.getLsbD 10) || (v.getLsbD 12 && v.getLsbD 13)) = false →
      ∃ m', miWrite m 0 v = .ok m' ∧ m'.initLength = v.extractLsb' 0 7 ∧
        m'.initMode = (if v.getLsbD 8 then true else if v.getLsbD 7 then false else m.initMode) ∧
        m'.ebusTest = (if v.getLsbD 10 then true else if v.getLsbD 9 then false else m.ebusTest) ∧
        m'.rdramRegMode = (if v.getLsbD 13 then true else if v.getLsbD 12 then false else m.rdramRegMode) ∧
        m'.intr = (if v.getLsbD 11 then m.intr &&& 0b011111 else m.intr) ∧ m'.mask = m.mask)

/-- The VI registers (R305 to R308): a stored register reads what was written last, a write of V_CURRENT clears the VI interrupt and stores
nothing, and V_CURRENT reads the half-line reached. The tick (R309) counts the cycles modulo the budget and raises the VI interrupt
exactly when a frame boundary is passed; the sum is taken in the 64 bits of vi_cycles (log entry 17). The framebuffer view (70_reset_and_hazards.md
R327) is P_FB_HEIGHT lines of P_FB_WIDTH pixels, each read from RDRAM where VI_STATUS, VI_ORIGIN and VI_WIDTH say, 0 outside
RDRAM; its addresses are computed without wrapping (log entry 16). -/
def Obligations.ViDevice : Prop :=
  (∀ (p : Params) (vi : Vi) (mi : Mi) (v : Word) (k : Nat), k < 14 →
    (k ≠ 4 → viRead p (viWrite vi mi (4 * k) v).1 (4 * k) = v ∧ (viWrite vi mi (4 * k) v).2 = mi ∧
      ∀ j < 14, j ≠ k → viRead p (viWrite vi mi (4 * k) v).1 (4 * j) = viRead p vi (4 * j)) ∧
    (viWrite vi mi 0x10 v).1 = vi ∧ (viWrite vi mi 0x10 v).2 = { mi with intr := mi.intr &&& 0b110111 } ∧
    (viRead p vi 0x10).toNat = vi.cycles.toNat * p.viLines / p.budget % 1024) ∧
  (∀ (p : Params) (elapsed : Nat) (vi : Vi) (mi : Mi) (total : Nat), total = (vi.cycles.toNat + elapsed) % 2 ^ 64 →
    (viTick p elapsed vi mi).1.cycles.toNat = total % p.budget ∧
    (viTick p elapsed vi mi).1.reg = vi.reg ∧
    (p.budget ≤ total → (viTick p elapsed vi mi).2 = { mi with intr := mi.intr ||| 0b001000 }) ∧
    (total < p.budget → (viTick p elapsed vi mi).2 = mi)) ∧
  (∀ (s : State) (x y : Nat), x < s.params.fbWidth → y < s.params.fbHeight →
    (getFramebuffer s).length = s.params.fbHeight ∧
    ∃ row px, (getFramebuffer s)[y]? = some row ∧ row.length = s.params.fbWidth ∧ row[x]? = some px ∧
      ∀ type origin i, type = s.vi.reg[0].toNat % 4 → origin = s.vi.reg[1].toNat % 2 ^ 24 →
        i = y * (s.vi.reg[2].toNat % 2 ^ 12) + x →
        (type = 2 → ∀ a, a = (origin + 2 * i) / 2 * 2 →
          (s.params.rdramSize < a + 2 → px = 0) ∧
          (a + 2 ≤ s.params.rdramSize → ∀ h : BitVec 16, h = s.mem.read a ++ s.mem.read (a + 1) →
            ∀ k < 8, px.getLsbD (24 + k) = h.getLsbD (11 + (if k < 3 then k + 2 else k - 3)) ∧
              px.getLsbD (16 + k) = h.getLsbD (6 + (if k < 3 then k + 2 else k - 3)) ∧
              px.getLsbD (8 + k) = h.getLsbD (1 + (if k < 3 then k + 2 else k - 3)) ∧ px.getLsbD k = h.getLsbD 0)) ∧
        (type = 3 → ∀ a, a = (origin + 4 * i) / 4 * 4 →
          (s.params.rdramSize < a + 4 → px = 0) ∧
          (a + 4 ≤ s.params.rdramSize →
            px = s.mem.read a ++ s.mem.read (a + 1) ++ s.mem.read (a + 2) ++ s.mem.read (a + 3))) ∧
        (type ≠ 2 → type ≠ 3 → px = 0))

/-- The timer tick (R310): Count advances once every P_COUNT_DIV cycles, and the timer interrupt becomes pending exactly when Compare is
one of the values Count passes through. -/
def Obligations.TimerTickRule : Prop :=
  ∀ (p : Params) (elapsed : Nat) (c : Cp0) (t : Timer) (n : Nat), n = (t.countFrac + elapsed) / p.countDiv →
    (timerTick p elapsed c t).1 = { c with count := c.count + BitVec.ofNat 32 n } ∧
    (timerTick p elapsed c t).2.countFrac = (t.countFrac + elapsed) % p.countDiv ∧
    ((timerTick p elapsed c t).2.pending = true ↔
      t.pending = true ∨ ∃ k, 1 ≤ k ∧ k ≤ n ∧ c.compare = c.count + BitVec.ofNat 32 k)

/-! ## Scheduler, reset and host -/

/-- The frame (70_reset_and_hazards.md R328, R329) and the host calls around it (R324 to R326). At its start the input is latched and a
stop is observed. With P_GRANULARITY = Step the devices tick for P_CPI cycles and interrupts are checked after every step, with Frame
neither. When the core does not run or the budget is used up, the frame ends: the devices tick for the cycles not yet ticked, then
interrupts are checked, so that an interrupt that is due is taken, then the result is recorded. start, stop and setInputState set
their flags only; what they ask for happens at the start of the next frame. The frame fields are the model's own (log entries 6 and 13). -/
def Obligations.FrameRules : Prop :=
  ∀ s : State,
    (s.frame.open_ = false → openFrame s = { s with
      inputMask := s.pendingInput.getD s.inputMask, pendingInput := none,
      core := if s.core = .running ∧ s.shouldRun = false then .halted else s.core,
      frame := { open_ := true, fc := 0, ticked := 0, faulted := false, last := s.frame.last } }) ∧
    (s.params.granularity = .frame → afterStep s = endIfDone { s with
      frame := { s.frame with fc := s.frame.fc + s.params.cpi, faulted := s.frame.faulted || s.stepFault.isSome } }) ∧
    (s.params.granularity = .step → s.refused = none → s.extActive = false →
      afterStep s = endIfDone (interruptCheck { tickDevices s.params.cpi s with
        frame := { s.frame with
          fc := s.frame.fc + s.params.cpi, ticked := s.frame.fc + s.params.cpi
          faulted := s.frame.faulted || s.stepFault.isSome } })) ∧
    (s.core = .running → s.refused = none → s.frame.fc < s.params.budget → endIfDone s = .ok s) ∧
    (s.refused = none → s.extActive = false → (s.core ≠ .running ∨ s.params.budget ≤ s.frame.fc) →
      ∀ u, u = tickDevices (s.frame.fc - s.frame.ticked) s →
      endIfDone s = .ok (closeFrame (interruptCheck u)) ∧
      (closeFrame (interruptCheck u)).frame = { s.frame with
        open_ := false, last := some { faulted := s.frame.faulted, cycles := s.frame.fc, refused := none } } ∧
      (interruptDue u = true →
        (closeFrame (interruptCheck u)).pc = (if statusBEV s then 0xFFFFFFFFBFC00380 else 0xFFFFFFFF80000180) ∧
        statusEXL (closeFrame (interruptCheck u)) = true ∧
        (closeFrame (interruptCheck u)).cp0.epc = (if s.inDelaySlot then s.pc - 4 else s.pc) ∧
        (closeFrame (interruptCheck u)).cp0.cause.extractLsb' 2 5 = 0)) ∧
    (s.refused = none → s.core ≠ .running → s.extActive = false → s.frame.open_ = false →
      s.timer.countFrac < s.params.countDiv →
      ∃ t, step s = .next t ∧ t.regs = s.regs ∧ t.pc = s.pc ∧ t.mem = s.mem ∧ t.cycles = s.cycles ∧ t.cp0.count = s.cp0.count ∧
        t.frame.open_ = false ∧ t.frame.last = some { faulted := false, cycles := 0, refused := none }) ∧
    (s.refused = none → s.extActive = false → s.frame.ticked = 0 → s.frame.fc = s.params.budget →
      s.vi.cycles.toNat + s.params.budget < 2 ^ 64 →
      ∃ t, endIfDone s = .ok t ∧ t.mi.intr.getLsbD 3 = true ∧
        t.cp0.count = s.cp0.count + BitVec.ofNat 32 ((s.timer.countFrac + s.params.budget) / s.params.countDiv)) ∧
    start s = { s with shouldRun := true, core := if s.core = .idle then .running else s.core } ∧
    stop s = { s with shouldRun := false } ∧
    (∀ mask, setInputState mask s = { s with pendingInput := some mask }) ∧
    (s.frame.open_ = false → ∀ mask, (openFrame (setInputState mask s)).inputMask = mask) ∧
    (s.frame.open_ = false → s.core = .running → (stop s).core = .running ∧ (openFrame (stop s)).core = .halted)

/-- The external agents (20_memory.md R90, 60_exceptions.md R301): while no store has reached an External region they do nothing; else
they may change only memory, the MI interrupt bits other than VI, and the checker's sets. What they do is a free value (log entry
5). With the checker off they always act; with it on the checker alone can refuse them, and then the state before their action
bears the mark (log entry 14). -/
def Obligations.ExternalAgentsBounded : Prop :=
  (∀ s t : State, externalAgents s = .ok t →
    (s.extActive = false → t = s) ∧
    t.mi.intr.getLsbD 3 = s.mi.intr.getLsbD 3 ∧
    t = { s with mem := t.mem, mi := { s.mi with intr := t.mi.intr }, cache := t.cache, draws := t.draws } ∧
    (∀ a, a < 2 ^ 32 → regionKind s.params (BitVec.ofNat 32 a) ≠ .ram → regionKind s.params (BitVec.ofNat 32 a) ≠ .spMem →
      t.mem.read a = s.mem.read a)) ∧
  (∀ s : State, (s.extActive = false ∨ s.params.cacheCheck = false) → ∃ t, externalAgents s = .ok t) ∧
  (∀ s : State, (∃ t, externalAgents s = .ok t) ∨ externalAgents s = .error (.cacheState, s))

/-- Reset (70_reset_and_hazards.md R318, R319, 10_state.md R71): every element at the value the table states, and the elements it keeps;
the parameters are kept too. -/
def Obligations.ResetValues : Prop :=
  ∀ (s t : State), t = resetOp s →
    (∀ r, readReg t r = 0) ∧ t.hi = 0 ∧ t.lo = 0 ∧ t.llbit = false ∧ t.pc = s.params.resetVector ∧
    t.nextPc = s.params.resetVector + 4 ∧ t.inDelaySlot = false ∧
    t.cp0 =
      { index := 0, entryLo0 := 0, entryLo1 := 0, context := 0, pageMask := 0, wired := 0, badVAddr := 0, count := 0,
        entryHi := 0, compare := 0, status := 0x00400004, cause := 0, epc := 0, config := 0x0006E460, llAddr := 0,
        watchLo := 0, watchHi := 0, xContext := 0, pErr := 0, tagLo := 0, errorEpc := 0 } ∧
    configValue t.params t.cp0.config = (s.params.configEC.setWidth 32 <<< 28) ||| 0x0006E460 ∧
    (∀ i : Fin 32, t.tlb[i] = TlbEntry.zero) ∧ t.core = .running ∧ t.shouldRun = s.shouldRun ∧ t.cycles = 0 ∧
    t.refused = s.refused ∧ t.hiReadAge = 0 ∧ t.loReadAge = 0 ∧ t.extActive = false ∧ t.cache = CacheSets.empty ∧
    t.mi = { initLength := 0, initMode := false, ebusTest := false, rdramRegMode := false, intr := 0, mask := 0 } ∧
    t.vi = { reg := Vector.replicate 14 0, cycles := 0 } ∧ t.timer = { pending := false, countFrac := 0 } ∧
    (∀ a, (a < s.params.rdramSize ∧ a < 0x04002000) ∨ (0x04000000 ≤ a ∧ a < 0x04002000) →
      t.mem.read a = Memory.read s.params.ramInit a) ∧
    (∀ a, (0x10000000 ≤ a ∧ a < 0x10000000 + s.params.romWindow) ∨ (0x1FC00000 ≤ a ∧ a < 0x1FC007C0) →
      t.mem.read a = s.mem.read a) ∧
    t.romLen = s.romLen ∧ t.pifPresent = s.pifPresent ∧ t.params = s.params ∧ t.inputMask = s.inputMask ∧ t.pendingInput = s.pendingInput

/-- loadImage (R323): an empty or too long image is refused; any other is installed at the cartridge window and changes no other
byte. -/
def Obligations.LoadImageRule : Prop :=
  ∀ (s : State) (bytes : List Byte),
    (bytes = [] → loadImage bytes s = .error .empty) ∧
    (s.params.romWindow < bytes.length → loadImage bytes s = .error .tooLarge) ∧
    (bytes ≠ [] → bytes.length ≤ s.params.romWindow →
      ∃ t, loadImage bytes s = .ok t ∧ t = { s with mem := t.mem, romLen := bytes.length } ∧
        (∀ i, ∀ h : i < bytes.length, t.mem.read (0x10000000 + i) = bytes[i]) ∧
        ∀ a, (a < 0x10000000 ∨ 0x10000000 + s.params.romWindow ≤ a) → t.mem.read a = s.mem.read a)

/-! ## The invariant -/

/-- The machine after reset meets the invariant, with the parameters at their defaults and with every legal choice of them. Which choices
are legal, and the values of the elements that reset keeps, are the model's choice (log entries 1, 6, 7 and 13). -/
def Obligations.ResetMeetsInvariant : Prop :=
  Inv State.reset ∧ ∀ p : Params, p.legal → Memory.wf p.ramInit = true → Inv (State.fresh p)

/-- Every step keeps the invariant: the fixed and zero fields of the CP0 registers (10_state.md R39 to R57), a legal mode (R49), legal TLB
masks (44_system.md R261), and the ranges of the hazard counters (10_state.md R66), of the timer (R67) and of the VI (60_exceptions.md
R309). The canonical form of the memory (log entry 10), the counters of the frame in progress (70_reset_and_hazards.md R328, log entry 6) and
the legal parameters (log entry 1) are the model's own. -/
def Obligations.StepKeepsInvariant : Prop := ∀ s t : State, Inv s → step s = .next t → Inv t
end

