-- ==== Sys2Proof/Laws/Decode.lean ====
section
/-! SUPPORT. The fields of each word format (30_encoding.md R103, R104): what every field extractor reads from a word the encoder
lays out. -/

namespace Sys2Proof.Decode

/-- The number of a concatenation. -/
theorem toNat_concat {m n : Nat} (x : BitVec m) (y : BitVec n) : (x ++ y).toNat = x.toNat * 2 ^ n + y.toNat := by
  rw [BitVec.toNat_append, ← Nat.shiftLeft_add_eq_or_of_lt y.isLt, Nat.shiftLeft_eq]

/-! ## formatR -/

theorem formatR_toNat (op : BitVec 6) (rs rt rd : RegIdx) (sa : BitVec 5) (funct : BitVec 6) :
    (formatR op rs rt rd sa funct).toNat = op.toNat * 2 ^ 26 + rs.toNat * 2 ^ 21 + rt.toNat * 2 ^ 16 + rd.toNat * 2 ^ 11 + sa.toNat * 2 ^ 6 + funct.toNat := by
  have h : (formatR op rs rt rd sa funct).toNat = (((((op.toNat) * 2 ^ 5 + rs.toNat) * 2 ^ 5 + rt.toNat) * 2 ^ 5 + rd.toNat) * 2 ^ 5 + sa.toNat) * 2 ^ 6 + funct.toNat := by
    unfold formatR
    simp only [← toNat_concat]
  rw [h]
  omega

@[simp] theorem opF_formatR (op : BitVec 6) (rs rt rd : RegIdx) (sa : BitVec 5) (funct : BitVec 6) : opF (formatR op rs rt rd sa funct) = op := by
  apply BitVec.eq_of_toNat_eq
  rw [opF, BitVec.extractLsb'_toNat, formatR_toNat, Nat.shiftRight_eq_div_pow]
  omega

@[simp] theorem rsF_formatR (op : BitVec 6) (rs rt rd : RegIdx) (sa : BitVec 5) (funct : BitVec 6) : rsF (formatR op rs rt rd sa funct) = rs := by
  apply BitVec.eq_of_toNat_eq
  rw [rsF, BitVec.extractLsb'_toNat, formatR_toNat, Nat.shiftRight_eq_div_pow]
  omega

@[simp] theorem rtF_formatR (op : BitVec 6) (rs rt rd : RegIdx) (sa : BitVec 5) (funct : BitVec 6) : rtF (formatR op rs rt rd sa funct) = rt := by
  apply BitVec.eq_of_toNat_eq
  rw [rtF, BitVec.extractLsb'_toNat, formatR_toNat, Nat.shiftRight_eq_div_pow]
  omega

@[simp] theorem rdF_formatR (op : BitVec 6) (rs rt rd : RegIdx) (sa : BitVec 5) (funct : BitVec 6) : rdF (formatR op rs rt rd sa funct) = rd := by
  apply BitVec.eq_of_toNat_eq
  rw [rdF, BitVec.extractLsb'_toNat, formatR_toNat, Nat.shiftRight_eq_div_pow]
  omega

@[simp] theorem saF_formatR (op : BitVec 6) (rs rt rd : RegIdx) (sa : BitVec 5) (funct : BitVec 6) : saF (formatR op rs rt rd sa funct) = sa := by
  apply BitVec.eq_of_toNat_eq
  rw [saF, BitVec.extractLsb'_toNat, formatR_toNat, Nat.shiftRight_eq_div_pow]
  omega

@[simp] theorem functF_formatR (op : BitVec 6) (rs rt rd : RegIdx) (sa : BitVec 5) (funct : BitVec 6) : functF (formatR op rs rt rd sa funct) = funct := by
  apply BitVec.eq_of_toNat_eq
  rw [functF, BitVec.extractLsb'_toNat, formatR_toNat, Nat.shiftRight_eq_div_pow]
  omega

/-! ## formatI -/

theorem formatI_toNat (op : BitVec 6) (rs rt : RegIdx) (imm : BitVec 16) :
    (formatI op rs rt imm).toNat = op.toNat * 2 ^ 26 + rs.toNat * 2 ^ 21 + rt.toNat * 2 ^ 16 + imm.toNat := by
  have h : (formatI op rs rt imm).toNat = (((op.toNat) * 2 ^ 5 + rs.toNat) * 2 ^ 5 + rt.toNat) * 2 ^ 16 + imm.toNat := by
    unfold formatI
    simp only [← toNat_concat]
  rw [h]
  omega

@[simp] theorem opF_formatI (op : BitVec 6) (rs rt : RegIdx) (imm : BitVec 16) : opF (formatI op rs rt imm) = op := by
  apply BitVec.eq_of_toNat_eq
  rw [opF, BitVec.extractLsb'_toNat, formatI_toNat, Nat.shiftRight_eq_div_pow]
  omega

@[simp] theorem rsF_formatI (op : BitVec 6) (rs rt : RegIdx) (imm : BitVec 16) : rsF (formatI op rs rt imm) = rs := by
  apply BitVec.eq_of_toNat_eq
  rw [rsF, BitVec.extractLsb'_toNat, formatI_toNat, Nat.shiftRight_eq_div_pow]
  omega

@[simp] theorem rtF_formatI (op : BitVec 6) (rs rt : RegIdx) (imm : BitVec 16) : rtF (formatI op rs rt imm) = rt := by
  apply BitVec.eq_of_toNat_eq
  rw [rtF, BitVec.extractLsb'_toNat, formatI_toNat, Nat.shiftRight_eq_div_pow]
  omega

@[simp] theorem immF_formatI (op : BitVec 6) (rs rt : RegIdx) (imm : BitVec 16) : immF (formatI op rs rt imm) = imm := by
  apply BitVec.eq_of_toNat_eq
  rw [immF, BitVec.extractLsb'_toNat, formatI_toNat, Nat.shiftRight_eq_div_pow]
  omega

/-! ## formatJ -/

theorem formatJ_toNat (op : BitVec 6) (target : BitVec 26) :
    (formatJ op target).toNat = op.toNat * 2 ^ 26 + target.toNat := by
  have h : (formatJ op target).toNat = (op.toNat) * 2 ^ 26 + target.toNat := by
    unfold formatJ
    simp only [← toNat_concat]
  rw [h]

@[simp] theorem opF_formatJ (op : BitVec 6) (target : BitVec 26) : opF (formatJ op target) = op := by
  apply BitVec.eq_of_toNat_eq
  rw [opF, BitVec.extractLsb'_toNat, formatJ_toNat, Nat.shiftRight_eq_div_pow]
  omega

@[simp] theorem targetF_formatJ (op : BitVec 6) (target : BitVec 26) : targetF (formatJ op target) = target := by
  apply BitVec.eq_of_toNat_eq
  rw [targetF, BitVec.extractLsb'_toNat, formatJ_toNat, Nat.shiftRight_eq_div_pow]
  omega

/-! ## formatCode -/

theorem formatCode_toNat (code : BitVec 20) (funct : BitVec 6) :
    (formatCode code funct).toNat = code.toNat * 2 ^ 6 + funct.toNat := by
  have h : (formatCode code funct).toNat = (((0 : BitVec 6).toNat) * 2 ^ 20 + code.toNat) * 2 ^ 6 + funct.toNat := by
    unfold formatCode
    simp only [← toNat_concat]
  rw [h]
  simp only [BitVec.ofNat_eq_ofNat, BitVec.toNat_ofNat]
  omega

@[simp] theorem opF_formatCode (code : BitVec 20) (funct : BitVec 6) : opF (formatCode code funct) = 0 := by
  apply BitVec.eq_of_toNat_eq
  rw [opF, BitVec.extractLsb'_toNat, formatCode_toNat, Nat.shiftRight_eq_div_pow]
  simp only [BitVec.ofNat_eq_ofNat, BitVec.toNat_ofNat]
  omega

@[simp] theorem codeF_formatCode (code : BitVec 20) (funct : BitVec 6) : codeF (formatCode code funct) = code := by
  apply BitVec.eq_of_toNat_eq
  rw [codeF, BitVec.extractLsb'_toNat, formatCode_toNat, Nat.shiftRight_eq_div_pow]
  omega

@[simp] theorem functF_formatCode (code : BitVec 20) (funct : BitVec 6) : functF (formatCode code funct) = funct := by
  apply BitVec.eq_of_toNat_eq
  rw [functF, BitVec.extractLsb'_toNat, formatCode_toNat, Nat.shiftRight_eq_div_pow]
  omega

/-! ## formatTrap -/

theorem formatTrap_toNat (rs rt : RegIdx) (tcode : BitVec 10) (funct : BitVec 6) :
    (formatTrap rs rt tcode funct).toNat = rs.toNat * 2 ^ 21 + rt.toNat * 2 ^ 16 + tcode.toNat * 2 ^ 6 + funct.toNat := by
  have h : (formatTrap rs rt tcode funct).toNat = (((((0 : BitVec 6).toNat) * 2 ^ 5 + rs.toNat) * 2 ^ 5 + rt.toNat) * 2 ^ 10 + tcode.toNat) * 2 ^ 6 + funct.toNat := by
    unfold formatTrap
    simp only [← toNat_concat]
  rw [h]
  simp only [BitVec.ofNat_eq_ofNat, BitVec.toNat_ofNat]
  omega

@[simp] theorem opF_formatTrap (rs rt : RegIdx) (tcode : BitVec 10) (funct : BitVec 6) : opF (formatTrap rs rt tcode funct) = 0 := by
  apply BitVec.eq_of_toNat_eq
  rw [opF, BitVec.extractLsb'_toNat, formatTrap_toNat, Nat.shiftRight_eq_div_pow]
  simp only [BitVec.ofNat_eq_ofNat, BitVec.toNat_ofNat]
  omega

@[simp] theorem rsF_formatTrap (rs rt : RegIdx) (tcode : BitVec 10) (funct : BitVec 6) : rsF (formatTrap rs rt tcode funct) = rs := by
  apply BitVec.eq_of_toNat_eq
  rw [rsF, BitVec.extractLsb'_toNat, formatTrap_toNat, Nat.shiftRight_eq_div_pow]
  omega

@[simp] theorem rtF_formatTrap (rs rt : RegIdx) (tcode : BitVec 10) (funct : BitVec 6) : rtF (formatTrap rs rt tcode funct) = rt := by
  apply BitVec.eq_of_toNat_eq
  rw [rtF, BitVec.extractLsb'_toNat, formatTrap_toNat, Nat.shiftRight_eq_div_pow]
  omega

@[simp] theorem tcodeF_formatTrap (rs rt : RegIdx) (tcode : BitVec 10) (funct : BitVec 6) : tcodeF (formatTrap rs rt tcode funct) = tcode := by
  apply BitVec.eq_of_toNat_eq
  rw [tcodeF, BitVec.extractLsb'_toNat, formatTrap_toNat, Nat.shiftRight_eq_div_pow]
  omega

@[simp] theorem functF_formatTrap (rs rt : RegIdx) (tcode : BitVec 10) (funct : BitVec 6) : functF (formatTrap rs rt tcode funct) = funct := by
  apply BitVec.eq_of_toNat_eq
  rw [functF, BitVec.extractLsb'_toNat, formatTrap_toNat, Nat.shiftRight_eq_div_pow]
  omega

/-! ## formatMov -/

theorem formatMov_toNat (sub rt rd : RegIdx) :
    (formatMov sub rt rd).toNat = 16 * 2 ^ 26 + sub.toNat * 2 ^ 21 + rt.toNat * 2 ^ 16 + rd.toNat * 2 ^ 11 := by
  have h : (formatMov sub rt rd).toNat = (((((16 : BitVec 6).toNat) * 2 ^ 5 + sub.toNat) * 2 ^ 5 + rt.toNat) * 2 ^ 5 + rd.toNat) * 2 ^ 11 + (0 : BitVec 11).toNat := by
    unfold formatMov
    simp only [← toNat_concat]
  rw [h]
  simp only [BitVec.ofNat_eq_ofNat, BitVec.toNat_ofNat]
  omega

@[simp] theorem opF_formatMov (sub rt rd : RegIdx) : opF (formatMov sub rt rd) = 16 := by
  apply BitVec.eq_of_toNat_eq
  rw [opF, BitVec.extractLsb'_toNat, formatMov_toNat, Nat.shiftRight_eq_div_pow]
  simp only [BitVec.ofNat_eq_ofNat, BitVec.toNat_ofNat]
  omega

@[simp] theorem rsF_formatMov (sub rt rd : RegIdx) : rsF (formatMov sub rt rd) = sub := by
  apply BitVec.eq_of_toNat_eq
  rw [rsF, BitVec.extractLsb'_toNat, formatMov_toNat, Nat.shiftRight_eq_div_pow]
  omega

@[simp] theorem rtF_formatMov (sub rt rd : RegIdx) : rtF (formatMov sub rt rd) = rt := by
  apply BitVec.eq_of_toNat_eq
  rw [rtF, BitVec.extractLsb'_toNat, formatMov_toNat, Nat.shiftRight_eq_div_pow]
  omega

@[simp] theorem rdF_formatMov (sub rt rd : RegIdx) : rdF (formatMov sub rt rd) = rd := by
  apply BitVec.eq_of_toNat_eq
  rw [rdF, BitVec.extractLsb'_toNat, formatMov_toNat, Nat.shiftRight_eq_div_pow]
  omega

@[simp] theorem low11F_formatMov (sub rt rd : RegIdx) : low11F (formatMov sub rt rd) = 0 := by
  apply BitVec.eq_of_toNat_eq
  rw [low11F, BitVec.extractLsb'_toNat, formatMov_toNat, Nat.shiftRight_eq_div_pow]
  simp only [BitVec.ofNat_eq_ofNat, BitVec.toNat_ofNat]
  omega

/-! ## formatCo -/

theorem formatCo_toNat (funct : BitVec 6) :
    (formatCo funct).toNat = 16 * 2 ^ 26 + 1 * 2 ^ 25 + funct.toNat := by
  have h : (formatCo funct).toNat = ((((16 : BitVec 6).toNat) * 2 ^ 1 + (1 : BitVec 1).toNat) * 2 ^ 19 + (0 : BitVec 19).toNat) * 2 ^ 6 + funct.toNat := by
    unfold formatCo
    simp only [← toNat_concat]
  rw [h]
  simp only [BitVec.ofNat_eq_ofNat, BitVec.toNat_ofNat]
  omega

@[simp] theorem opF_formatCo (funct : BitVec 6) : opF (formatCo funct) = 16 := by
  apply BitVec.eq_of_toNat_eq
  rw [opF, BitVec.extractLsb'_toNat, formatCo_toNat, Nat.shiftRight_eq_div_pow]
  simp only [BitVec.ofNat_eq_ofNat, BitVec.toNat_ofNat]
  omega

@[simp] theorem coF_formatCo (funct : BitVec 6) : coF (formatCo funct) = 1 := by
  apply BitVec.eq_of_toNat_eq
  rw [coF, BitVec.extractLsb'_toNat, formatCo_toNat, Nat.shiftRight_eq_div_pow]
  simp only [BitVec.ofNat_eq_ofNat, BitVec.toNat_ofNat]
  omega

@[simp] theorem coZeroF_formatCo (funct : BitVec 6) : coZeroF (formatCo funct) = 0 := by
  apply BitVec.eq_of_toNat_eq
  rw [coZeroF, BitVec.extractLsb'_toNat, formatCo_toNat, Nat.shiftRight_eq_div_pow]
  simp only [BitVec.ofNat_eq_ofNat, BitVec.toNat_ofNat]
  omega

@[simp] theorem functF_formatCo (funct : BitVec 6) : functF (formatCo funct) = funct := by
  apply BitVec.eq_of_toNat_eq
  rw [functF, BitVec.extractLsb'_toNat, formatCo_toNat, Nat.shiftRight_eq_div_pow]
  omega

end Sys2Proof.Decode
end

