-- ==== Sys2Proof/Laws/Memory.lean ====
section
/-! SUPPORT. Laws of the memory list: what a byte reads as after a write, that every operation keeps the canonical form, and that
canonical memories that read alike are equal (10_state.md R68, 20_memory.md R73, R78). -/

namespace Sys2Proof.Machine

/-! ## Reading -/

theorem Memory.read_erase (m : Memory) (a b : Nat) :
    (m.erase a).read b = if b = a then unlistedByte else m.read b := by
  induction m with
  | nil => simp [Memory.erase, Memory.read]
  | cons c m ih =>
    obtain ⟨k, v⟩ := c
    by_cases hk : k = a <;> by_cases hb : b = a <;> simp_all [Memory.erase, Memory.read]; grind

theorem Memory.read_insert_same (m : Memory) (a : Nat) (v : Byte) :
    ((m.erase a).insert a v).read a = v := by
  induction m with
  | nil => simp [Memory.erase, Memory.insert, Memory.read]
  | cons c m ih =>
    obtain ⟨k, w⟩ := c
    by_cases hk : k = a
    · simp_all [Memory.erase]
    · simp only [Memory.erase, hk, if_false, Memory.insert]
      split <;> simp_all [Memory.read]

theorem Memory.read_insert_other (m : Memory) (a b : Nat) (v : Byte) (h : b ≠ a) : (m.insert a v).read b = m.read b := by
  induction m with
  | nil => simp [Memory.insert, Memory.read, Ne.symm h]
  | cons c m ih =>
    obtain ⟨k, w⟩ := c
    simp only [Memory.insert]
    split <;> simp_all [Memory.read, Ne.symm h]

/-- A byte reads what was written to it last. -/
@[simp] theorem Memory.read_write_same (m : Memory) (a : Nat) (v : Byte) : (m.write a v).read a = v := by
  unfold Memory.write
  split
  · simp_all [Memory.read_erase]
  · exact Memory.read_insert_same m a v

/-- A write changes no other byte. -/
theorem Memory.read_write_other (m : Memory) (a b : Nat) (v : Byte) (h : b ≠ a) : (m.write a v).read b = m.read b := by
  unfold Memory.write
  split
  · simp [Memory.read_erase, h]
  · rw [Memory.read_insert_other _ _ _ _ h, Memory.read_erase, if_neg h]

theorem Memory.read_write (m : Memory) (a b : Nat) (v : Byte) :
    (m.write a v).read b = if b = a then v else m.read b := by
  split
  · next h => rw [h, Memory.read_write_same]
  · next h => exact Memory.read_write_other m a b v h

/-! ## The canonical form -/

theorem Memory.risingFrom_mono (m : Memory) (lo lo' : Nat) (hle : lo' ≤ lo) (h : Memory.risingFrom lo m = true) :
    Memory.risingFrom lo' m = true := by
  cases m with
  | nil => rfl
  | cons c m =>
    obtain ⟨k, v⟩ := c
    simp only [Memory.risingFrom, Bool.and_eq_true, decide_eq_true_eq] at h ⊢
    exact ⟨by omega, h.2⟩

theorem Memory.risingFrom_erase (m : Memory) (lo a : Nat) (h : Memory.risingFrom lo m = true) :
    Memory.risingFrom lo (m.erase a) = true := by
  induction m generalizing lo with
  | nil => rfl
  | cons c m ih =>
    obtain ⟨k, v⟩ := c
    simp only [Memory.risingFrom, Bool.and_eq_true, decide_eq_true_eq] at h
    simp only [Memory.erase]
    split
    · exact Memory.risingFrom_mono _ k lo (by omega) (ih k h.2)
    · simp only [Memory.risingFrom, Bool.and_eq_true, decide_eq_true_eq]
      exact ⟨h.1, ih k h.2⟩

theorem Memory.rising_erase (m : Memory) (a : Nat) (h : Memory.rising m = true) : Memory.rising (m.erase a) = true := by
  cases m with
  | nil => rfl
  | cons c m =>
    obtain ⟨k, v⟩ := c
    simp only [Memory.rising] at h
    simp only [Memory.erase]
    split
    · have := Memory.risingFrom_erase m k a h
      cases hm : Memory.erase m a with
      | nil => rfl
      | cons c' m' =>
        obtain ⟨k', v'⟩ := c'
        rw [hm] at this
        simp only [Memory.risingFrom, Bool.and_eq_true] at this
        exact this.2
    · exact Memory.risingFrom_erase m k a h

theorem Memory.risingFrom_insert (m : Memory) (lo a : Nat) (v : Byte) (hlo : lo < a)
    (hfree : ∀ c ∈ m, c.1 ≠ a) (h : Memory.risingFrom lo m = true) : Memory.risingFrom lo (m.insert a v) = true := by
  induction m generalizing lo with
  | nil => simp [Memory.insert, Memory.risingFrom, hlo]
  | cons c m ih =>
    obtain ⟨k, w⟩ := c
    simp only [Memory.risingFrom, Bool.and_eq_true, decide_eq_true_eq] at h
    have hka : k ≠ a := hfree (k, w) (by simp)
    simp only [Memory.insert]
    split
    · simp [Memory.risingFrom, *]
    · simp only [Memory.risingFrom, Bool.and_eq_true, decide_eq_true_eq]
      exact ⟨h.1, ih k (by omega) (fun c hc => hfree c (by simp [hc])) h.2⟩

theorem Memory.rising_insert (m : Memory) (a : Nat) (v : Byte) (hfree : ∀ c ∈ m, c.1 ≠ a) (h : Memory.rising m = true) :
    Memory.rising (m.insert a v) = true := by
  cases m with
  | nil => rfl
  | cons c m =>
    obtain ⟨k, w⟩ := c
    simp only [Memory.rising] at h
    have hka : k ≠ a := hfree (k, w) (by simp)
    simp only [Memory.insert]
    split
    · simp [Memory.rising, Memory.risingFrom, *]
    · exact Memory.risingFrom_insert m k a v (by omega) (fun c hc => hfree c (by simp [hc])) h

theorem Memory.mem_erase (m : Memory) (a : Nat) (c : Host.Cell) (h : c ∈ m.erase a) : c ∈ m ∧ c.1 ≠ a := by
  induction m with
  | nil => simp [Memory.erase] at h
  | cons d m ih =>
    obtain ⟨k, w⟩ := d
    by_cases hk : k = a
    · simp only [Memory.erase, hk, if_true] at h
      exact ⟨by simp [(ih h).1], (ih h).2⟩
    · simp only [Memory.erase, hk, if_false, List.mem_cons] at h
      rcases h with rfl | h
      · exact ⟨by simp, hk⟩
      · exact ⟨by simp [(ih h).1], (ih h).2⟩

theorem Memory.mem_insert (m : Memory) (a : Nat) (v : Byte) (c : Host.Cell) (h : c ∈ m.insert a v) : c = (a, v) ∨ c ∈ m := by
  induction m with
  | nil => simp_all [Memory.insert]
  | cons d m ih =>
    obtain ⟨k, w⟩ := d
    simp only [Memory.insert] at h
    split at h
    · simp_all
    · simp only [List.mem_cons] at h
      rcases h with rfl | h
      · simp
      · rcases ih h with h | h <;> simp [h]

/-- A write keeps the canonical form. -/
theorem Memory.wf_write (m : Memory) (a : Nat) (v : Byte) (h : m.wf = true) : (m.write a v).wf = true := by
  simp only [Memory.wf, Bool.and_eq_true, List.all_eq_true] at h
  unfold Memory.write
  split
  · simp only [Memory.wf, Bool.and_eq_true, List.all_eq_true]
    exact ⟨Memory.rising_erase m a h.1, fun c hc => h.2 c (Memory.mem_erase m a c hc).1⟩
  · next hv =>
    simp only [Memory.wf, Bool.and_eq_true, List.all_eq_true]
    refine ⟨Memory.rising_insert _ a v (fun c hc => (Memory.mem_erase m a c hc).2) (Memory.rising_erase m a h.1), ?_⟩
    intro c hc
    rcases Memory.mem_insert _ a v c hc with rfl | hc
    · simpa using hv
    · exact h.2 c (Memory.mem_erase m a c hc).1

/-- A store of a big-endian value keeps the canonical form. -/
theorem Memory.wf_writeBE (m : Memory) (a : Nat) (mask : BitVec 8) (n : Nat) (v : DWord) (h : m.wf = true) :
    (m.writeBE a mask n v).wf = true := by
  induction n generalizing v with
  | zero => exact h
  | succ n ih =>
    simp only [Memory.writeBE]
    split
    · exact Memory.wf_write _ _ _ (ih _)
    · exact ih _

/-- A store of a list of bytes keeps the canonical form. -/
theorem Memory.wf_writeBytes (m : Memory) (a : Nat) (bs : List Byte) (h : m.wf = true) : (m.writeBytes a bs).wf = true := by
  induction bs generalizing m a with
  | nil => exact h
  | cons b bs ih => exact ih _ _ (Memory.wf_write _ _ _ h)

/-- The empty memory is canonical. -/
theorem Memory.wf_nil : Memory.wf [] = true := rfl

theorem Memory.read_of_risingFrom (m : Memory) (lo a : Nat) (h : Memory.risingFrom lo m = true) (ha : a ≤ lo) :
    m.read a = unlistedByte := by
  induction m generalizing lo with
  | nil => rfl
  | cons c m ih =>
    obtain ⟨k, v⟩ := c
    simp only [Memory.risingFrom, Bool.and_eq_true, decide_eq_true_eq] at h
    simp only [Memory.read]
    rw [if_neg (by omega)]
    exact ih k h.2 (by omega)

theorem Memory.rising_tail (c : Host.Cell) (m : Memory) (h : Memory.rising (c :: m) = true) : Memory.rising m = true := by
  obtain ⟨k, v⟩ := c
  cases m with
  | nil => rfl
  | cons d m =>
    obtain ⟨k', v'⟩ := d
    simp only [Memory.rising, Memory.risingFrom, Bool.and_eq_true] at h
    exact h.2

theorem Memory.read_head (k : Nat) (v : Byte) (m : Memory) : Memory.read ((k, v) :: m) k = v := by simp [Memory.read]

theorem Memory.read_tail (k : Nat) (v : Byte) (m : Memory) (a : Nat) (h : a ≠ k) :
    Memory.read ((k, v) :: m) a = m.read a := by simp [Memory.read, Ne.symm h]

/-- Canonical memories that read alike at every address are equal. -/
theorem Memory.ext_read (m n : Memory) (hm : m.wf = true) (hn : n.wf = true) (h : ∀ a, m.read a = n.read a) : m = n := by
  simp only [Memory.wf, Bool.and_eq_true, List.all_eq_true, bne_iff_ne, ne_eq] at hm hn
  induction m generalizing n with
  | nil =>
    cases n with
    | nil => rfl
    | cons c n =>
      obtain ⟨k, v⟩ := c
      have := h k
      rw [Memory.read_head] at this
      exact absurd this.symm (hn.2 (k, v) (by simp))
  | cons c m ih =>
    obtain ⟨k, v⟩ := c
    cases n with
    | nil =>
      have := h k
      rw [Memory.read_head] at this
      exact absurd this (hm.2 (k, v) (by simp))
    | cons d n =>
      obtain ⟨k', v'⟩ := d
      have hkk : k = k' := by
        rcases Nat.lt_trichotomy k k' with hlt | heq | hgt
        · exfalso
          have := h k
          rw [Memory.read_head, Memory.read_tail _ _ _ _ (by omega), Memory.read_of_risingFrom n k' k hn.1 (by omega)] at this
          exact hm.2 (k, v) (by simp) this
        · exact heq
        · exfalso
          have := h k'
          rw [Memory.read_head, Memory.read_tail _ _ _ _ (by omega), Memory.read_of_risingFrom m k k' hm.1 (by omega)] at this
          exact hn.2 (k', v') (by simp) this.symm
      subst hkk
      have hv : v = v' := by
        have := h k
        rwa [Memory.read_head, Memory.read_head] at this
      subst hv
      congr 1
      apply ih n
      · intro a
        by_cases ha : a = k
        · rw [ha, Memory.read_of_risingFrom m k k hm.1 (by omega), Memory.read_of_risingFrom n k k hn.1 (by omega)]
        · have := h a
          rwa [Memory.read_tail _ _ _ _ ha, Memory.read_tail _ _ _ _ ha] at this
      · exact ⟨Memory.rising_tail _ _ hm.1, fun c hc => hm.2 c (by simp [hc])⟩
      · exact ⟨Memory.rising_tail _ _ hn.1, fun c hc => hn.2 c (by simp [hc])⟩

/-! ## Big-endian values -/

/-- A store of a big-endian value changes no byte outside its unit. -/
theorem Memory.read_writeBE_outside (m : Memory) (a : Nat) (mask : BitVec 8) (n : Nat) (v : DWord) (b : Nat)
    (h : b < a ∨ a + n ≤ b) : (m.writeBE a mask n v).read b = m.read b := by
  induction n generalizing v with
  | zero => rfl
  | succ n ih =>
    simp only [Memory.writeBE]
    split
    · rw [Memory.read_write_other _ _ _ _ (by omega), ih _ (by omega)]
    · exact ih _ (by omega)

/-- A byte of the unit after the store of a big-endian value: the value's byte where the mask selects it, else as before. -/
theorem Memory.read_writeBE_inside (m : Memory) (a : Nat) (mask : BitVec 8) (n : Nat) (v : DWord) (j : Nat) (h : j < n) :
    (m.writeBE a mask n v).read (a + j) =
      if mask.getLsbD j then v.extractLsb' (8 * (n - 1 - j)) 8 else m.read (a + j) := by
  induction n generalizing v with
  | zero => omega
  | succ n ih =>
    simp only [Memory.writeBE]
    by_cases hj : j = n
    · subst hj
      split
      · rw [Memory.read_write_same]
        apply BitVec.eq_of_getLsbD_eq
        intro i hi
        simp [hi]
      · exact Memory.read_writeBE_outside _ _ _ _ _ _ (by omega)
    · have hjn : j < n := by omega
      have key : ((v >>> 8).extractLsb' (8 * (n - 1 - j)) 8 : Byte) = v.extractLsb' (8 * (n + 1 - 1 - j)) 8 := by
        apply BitVec.eq_of_getLsbD_eq
        intro i hi
        simp only [BitVec.getLsbD_extractLsb', BitVec.getLsbD_ushiftRight, hi, decide_true, Bool.true_and]
        congr 1
        omega
      split
      · rw [Memory.read_write_other _ _ _ _ (by omega), ih _ hjn, key]
      · rw [ih _ hjn, key]

/-- A bit of a big-endian value: bit `i` of byte `n - 1 - i / 8`. -/
theorem Memory.getLsbD_readBE (m : Memory) (a n i : Nat) (hn : n ≤ 8) (hi : i < 8 * n) :
    (m.readBE a n).getLsbD i = (m.read (a + (n - 1 - i / 8))).getLsbD (i % 8) := by
  induction n generalizing i with
  | zero => omega
  | succ n ih =>
    simp only [Memory.readBE, BitVec.getLsbD_or, BitVec.getLsbD_shiftLeft, BitVec.getLsbD_setWidth]
    by_cases h8 : i < 8
    · have h1 : i / 8 = 0 := by omega
      have h2 : i % 8 = i := by omega
      have h3 : i < 64 := by omega
      simp [h8, h1, h2, h3]
    · have h3 : i < 64 := by omega
      have h4 : (i - 8) / 8 = i / 8 - 1 := by omega
      have h5 : (i - 8) % 8 = i % 8 := by omega
      have h6 : n - 1 - (i / 8 - 1) = n + 1 - 1 - i / 8 := by omega
      rw [ih (i - 8) (by omega) (by omega), h4, h5, h6]
      have : (m.read (a + n)).getLsbD i = false := BitVec.getLsbD_of_ge _ _ (by omega)
      simp [h8, h3, this]

/-- The bits of a big-endian value above its bytes are 0. -/
theorem Memory.getLsbD_readBE_of_ge (m : Memory) (a n i : Nat) (hi : 8 * n ≤ i) : (m.readBE a n).getLsbD i = false := by
  induction n generalizing i with
  | zero => simp [Memory.readBE]
  | succ n ih =>
    simp only [Memory.readBE, BitVec.getLsbD_or, BitVec.getLsbD_shiftLeft, BitVec.getLsbD_setWidth]
    rw [ih (i - 8) (by omega), BitVec.getLsbD_of_ge (m.read (a + n)) i (by omega)]
    simp

end Sys2Proof.Machine
end

