-- ==== Sys2Proof/Laws/State.lean ====
section
/-! SUPPORT. What each state update leaves as it was: one lemma per field per update. -/

namespace Sys2Proof.Machine

/-! ## writeReg -/

@[simp] theorem writeReg_pc (s : State) (i : RegIdx) (v : DWord) : (writeReg s i v).pc = s.pc := by unfold writeReg; split <;> rfl
@[simp] theorem writeReg_nextPc (s : State) (i : RegIdx) (v : DWord) : (writeReg s i v).nextPc = s.nextPc := by unfold writeReg; split <;> rfl
@[simp] theorem writeReg_inDelaySlot (s : State) (i : RegIdx) (v : DWord) : (writeReg s i v).inDelaySlot = s.inDelaySlot := by unfold writeReg; split <;> rfl
@[simp] theorem writeReg_hi (s : State) (i : RegIdx) (v : DWord) : (writeReg s i v).hi = s.hi := by unfold writeReg; split <;> rfl
@[simp] theorem writeReg_lo (s : State) (i : RegIdx) (v : DWord) : (writeReg s i v).lo = s.lo := by unfold writeReg; split <;> rfl
@[simp] theorem writeReg_llbit (s : State) (i : RegIdx) (v : DWord) : (writeReg s i v).llbit = s.llbit := by unfold writeReg; split <;> rfl
@[simp] theorem writeReg_cp0 (s : State) (i : RegIdx) (v : DWord) : (writeReg s i v).cp0 = s.cp0 := by unfold writeReg; split <;> rfl
@[simp] theorem writeReg_tlb (s : State) (i : RegIdx) (v : DWord) : (writeReg s i v).tlb = s.tlb := by unfold writeReg; split <;> rfl
@[simp] theorem writeReg_core (s : State) (i : RegIdx) (v : DWord) : (writeReg s i v).core = s.core := by unfold writeReg; split <;> rfl
@[simp] theorem writeReg_shouldRun (s : State) (i : RegIdx) (v : DWord) : (writeReg s i v).shouldRun = s.shouldRun := by unfold writeReg; split <;> rfl
@[simp] theorem writeReg_cycles (s : State) (i : RegIdx) (v : DWord) : (writeReg s i v).cycles = s.cycles := by unfold writeReg; split <;> rfl
@[simp] theorem writeReg_refused (s : State) (i : RegIdx) (v : DWord) : (writeReg s i v).refused = s.refused := by unfold writeReg; split <;> rfl
@[simp] theorem writeReg_hiReadAge (s : State) (i : RegIdx) (v : DWord) : (writeReg s i v).hiReadAge = s.hiReadAge := by unfold writeReg; split <;> rfl
@[simp] theorem writeReg_loReadAge (s : State) (i : RegIdx) (v : DWord) : (writeReg s i v).loReadAge = s.loReadAge := by unfold writeReg; split <;> rfl
@[simp] theorem writeReg_mi (s : State) (i : RegIdx) (v : DWord) : (writeReg s i v).mi = s.mi := by unfold writeReg; split <;> rfl
@[simp] theorem writeReg_vi (s : State) (i : RegIdx) (v : DWord) : (writeReg s i v).vi = s.vi := by unfold writeReg; split <;> rfl
@[simp] theorem writeReg_timer (s : State) (i : RegIdx) (v : DWord) : (writeReg s i v).timer = s.timer := by unfold writeReg; split <;> rfl
@[simp] theorem writeReg_mem (s : State) (i : RegIdx) (v : DWord) : (writeReg s i v).mem = s.mem := by unfold writeReg; split <;> rfl
@[simp] theorem writeReg_romLen (s : State) (i : RegIdx) (v : DWord) : (writeReg s i v).romLen = s.romLen := by unfold writeReg; split <;> rfl
@[simp] theorem writeReg_pifPresent (s : State) (i : RegIdx) (v : DWord) : (writeReg s i v).pifPresent = s.pifPresent := by unfold writeReg; split <;> rfl
@[simp] theorem writeReg_inputMask (s : State) (i : RegIdx) (v : DWord) : (writeReg s i v).inputMask = s.inputMask := by unfold writeReg; split <;> rfl
@[simp] theorem writeReg_pendingInput (s : State) (i : RegIdx) (v : DWord) : (writeReg s i v).pendingInput = s.pendingInput := by unfold writeReg; split <;> rfl
@[simp] theorem writeReg_extActive (s : State) (i : RegIdx) (v : DWord) : (writeReg s i v).extActive = s.extActive := by unfold writeReg; split <;> rfl
@[simp] theorem writeReg_cache (s : State) (i : RegIdx) (v : DWord) : (writeReg s i v).cache = s.cache := by unfold writeReg; split <;> rfl
@[simp] theorem writeReg_params (s : State) (i : RegIdx) (v : DWord) : (writeReg s i v).params = s.params := by unfold writeReg; split <;> rfl
@[simp] theorem writeReg_frame (s : State) (i : RegIdx) (v : DWord) : (writeReg s i v).frame = s.frame := by unfold writeReg; split <;> rfl
@[simp] theorem writeReg_stepFault (s : State) (i : RegIdx) (v : DWord) : (writeReg s i v).stepFault = s.stepFault := by unfold writeReg; split <;> rfl
@[simp] theorem writeReg_draws (s : State) (i : RegIdx) (v : DWord) : (writeReg s i v).draws = s.draws := by unfold writeReg; split <;> rfl

/-! ## draw -/

@[simp] theorem draw_draws (s : State) : (draw s).2.draws = s.draws + 1 := rfl
@[simp] theorem draw_regs (s : State) : (draw s).2.regs = s.regs := rfl
@[simp] theorem draw_pc (s : State) : (draw s).2.pc = s.pc := rfl
@[simp] theorem draw_nextPc (s : State) : (draw s).2.nextPc = s.nextPc := rfl
@[simp] theorem draw_inDelaySlot (s : State) : (draw s).2.inDelaySlot = s.inDelaySlot := rfl
@[simp] theorem draw_hi (s : State) : (draw s).2.hi = s.hi := rfl
@[simp] theorem draw_lo (s : State) : (draw s).2.lo = s.lo := rfl
@[simp] theorem draw_llbit (s : State) : (draw s).2.llbit = s.llbit := rfl
@[simp] theorem draw_cp0 (s : State) : (draw s).2.cp0 = s.cp0 := rfl
@[simp] theorem draw_tlb (s : State) : (draw s).2.tlb = s.tlb := rfl
@[simp] theorem draw_core (s : State) : (draw s).2.core = s.core := rfl
@[simp] theorem draw_shouldRun (s : State) : (draw s).2.shouldRun = s.shouldRun := rfl
@[simp] theorem draw_cycles (s : State) : (draw s).2.cycles = s.cycles := rfl
@[simp] theorem draw_refused (s : State) : (draw s).2.refused = s.refused := rfl
@[simp] theorem draw_hiReadAge (s : State) : (draw s).2.hiReadAge = s.hiReadAge := rfl
@[simp] theorem draw_loReadAge (s : State) : (draw s).2.loReadAge = s.loReadAge := rfl
@[simp] theorem draw_mi (s : State) : (draw s).2.mi = s.mi := rfl
@[simp] theorem draw_vi (s : State) : (draw s).2.vi = s.vi := rfl
@[simp] theorem draw_timer (s : State) : (draw s).2.timer = s.timer := rfl
@[simp] theorem draw_mem (s : State) : (draw s).2.mem = s.mem := rfl
@[simp] theorem draw_romLen (s : State) : (draw s).2.romLen = s.romLen := rfl
@[simp] theorem draw_pifPresent (s : State) : (draw s).2.pifPresent = s.pifPresent := rfl
@[simp] theorem draw_inputMask (s : State) : (draw s).2.inputMask = s.inputMask := rfl
@[simp] theorem draw_pendingInput (s : State) : (draw s).2.pendingInput = s.pendingInput := rfl
@[simp] theorem draw_extActive (s : State) : (draw s).2.extActive = s.extActive := rfl
@[simp] theorem draw_cache (s : State) : (draw s).2.cache = s.cache := rfl
@[simp] theorem draw_params (s : State) : (draw s).2.params = s.params := rfl
@[simp] theorem draw_frame (s : State) : (draw s).2.frame = s.frame := rfl
@[simp] theorem draw_stepFault (s : State) : (draw s).2.stepFault = s.stepFault := rfl

/-! ## advance -/

@[simp] theorem advance_regs (f : Flow) (s : State) : (advance f s).regs = s.regs := by cases f <;> rfl
@[simp] theorem advance_hi (f : Flow) (s : State) : (advance f s).hi = s.hi := by cases f <;> rfl
@[simp] theorem advance_lo (f : Flow) (s : State) : (advance f s).lo = s.lo := by cases f <;> rfl
@[simp] theorem advance_llbit (f : Flow) (s : State) : (advance f s).llbit = s.llbit := by cases f <;> rfl
@[simp] theorem advance_cp0 (f : Flow) (s : State) : (advance f s).cp0 = s.cp0 := by cases f <;> rfl
@[simp] theorem advance_tlb (f : Flow) (s : State) : (advance f s).tlb = s.tlb := by cases f <;> rfl
@[simp] theorem advance_core (f : Flow) (s : State) : (advance f s).core = s.core := by cases f <;> rfl
@[simp] theorem advance_shouldRun (f : Flow) (s : State) : (advance f s).shouldRun = s.shouldRun := by cases f <;> rfl
@[simp] theorem advance_cycles (f : Flow) (s : State) : (advance f s).cycles = s.cycles := by cases f <;> rfl
@[simp] theorem advance_refused (f : Flow) (s : State) : (advance f s).refused = s.refused := by cases f <;> rfl
@[simp] theorem advance_hiReadAge (f : Flow) (s : State) : (advance f s).hiReadAge = s.hiReadAge := by cases f <;> rfl
@[simp] theorem advance_loReadAge (f : Flow) (s : State) : (advance f s).loReadAge = s.loReadAge := by cases f <;> rfl
@[simp] theorem advance_mi (f : Flow) (s : State) : (advance f s).mi = s.mi := by cases f <;> rfl
@[simp] theorem advance_vi (f : Flow) (s : State) : (advance f s).vi = s.vi := by cases f <;> rfl
@[simp] theorem advance_timer (f : Flow) (s : State) : (advance f s).timer = s.timer := by cases f <;> rfl
@[simp] theorem advance_mem (f : Flow) (s : State) : (advance f s).mem = s.mem := by cases f <;> rfl
@[simp] theorem advance_romLen (f : Flow) (s : State) : (advance f s).romLen = s.romLen := by cases f <;> rfl
@[simp] theorem advance_pifPresent (f : Flow) (s : State) : (advance f s).pifPresent = s.pifPresent := by cases f <;> rfl
@[simp] theorem advance_inputMask (f : Flow) (s : State) : (advance f s).inputMask = s.inputMask := by cases f <;> rfl
@[simp] theorem advance_pendingInput (f : Flow) (s : State) : (advance f s).pendingInput = s.pendingInput := by cases f <;> rfl
@[simp] theorem advance_extActive (f : Flow) (s : State) : (advance f s).extActive = s.extActive := by cases f <;> rfl
@[simp] theorem advance_cache (f : Flow) (s : State) : (advance f s).cache = s.cache := by cases f <;> rfl
@[simp] theorem advance_params (f : Flow) (s : State) : (advance f s).params = s.params := by cases f <;> rfl
@[simp] theorem advance_frame (f : Flow) (s : State) : (advance f s).frame = s.frame := by cases f <;> rfl
@[simp] theorem advance_stepFault (f : Flow) (s : State) : (advance f s).stepFault = s.stepFault := by cases f <;> rfl
@[simp] theorem advance_draws (f : Flow) (s : State) : (advance f s).draws = s.draws := by cases f <;> rfl

/-! ## withHiLo -/

@[simp] theorem withHiLo_hi (s : State) (hi lo : DWord) : (withHiLo s hi lo).hi = hi := rfl
@[simp] theorem withHiLo_lo (s : State) (hi lo : DWord) : (withHiLo s hi lo).lo = lo := rfl
@[simp] theorem withHiLo_regs (s : State) (hi lo : DWord) : (withHiLo s hi lo).regs = s.regs := rfl
@[simp] theorem withHiLo_pc (s : State) (hi lo : DWord) : (withHiLo s hi lo).pc = s.pc := rfl
@[simp] theorem withHiLo_nextPc (s : State) (hi lo : DWord) : (withHiLo s hi lo).nextPc = s.nextPc := rfl
@[simp] theorem withHiLo_inDelaySlot (s : State) (hi lo : DWord) : (withHiLo s hi lo).inDelaySlot = s.inDelaySlot := rfl
@[simp] theorem withHiLo_llbit (s : State) (hi lo : DWord) : (withHiLo s hi lo).llbit = s.llbit := rfl
@[simp] theorem withHiLo_cp0 (s : State) (hi lo : DWord) : (withHiLo s hi lo).cp0 = s.cp0 := rfl
@[simp] theorem withHiLo_tlb (s : State) (hi lo : DWord) : (withHiLo s hi lo).tlb = s.tlb := rfl
@[simp] theorem withHiLo_core (s : State) (hi lo : DWord) : (withHiLo s hi lo).core = s.core := rfl
@[simp] theorem withHiLo_shouldRun (s : State) (hi lo : DWord) : (withHiLo s hi lo).shouldRun = s.shouldRun := rfl
@[simp] theorem withHiLo_cycles (s : State) (hi lo : DWord) : (withHiLo s hi lo).cycles = s.cycles := rfl
@[simp] theorem withHiLo_refused (s : State) (hi lo : DWord) : (withHiLo s hi lo).refused = s.refused := rfl
@[simp] theorem withHiLo_hiReadAge (s : State) (hi lo : DWord) : (withHiLo s hi lo).hiReadAge = s.hiReadAge := rfl
@[simp] theorem withHiLo_loReadAge (s : State) (hi lo : DWord) : (withHiLo s hi lo).loReadAge = s.loReadAge := rfl
@[simp] theorem withHiLo_mi (s : State) (hi lo : DWord) : (withHiLo s hi lo).mi = s.mi := rfl
@[simp] theorem withHiLo_vi (s : State) (hi lo : DWord) : (withHiLo s hi lo).vi = s.vi := rfl
@[simp] theorem withHiLo_timer (s : State) (hi lo : DWord) : (withHiLo s hi lo).timer = s.timer := rfl
@[simp] theorem withHiLo_mem (s : State) (hi lo : DWord) : (withHiLo s hi lo).mem = s.mem := rfl
@[simp] theorem withHiLo_romLen (s : State) (hi lo : DWord) : (withHiLo s hi lo).romLen = s.romLen := rfl
@[simp] theorem withHiLo_pifPresent (s : State) (hi lo : DWord) : (withHiLo s hi lo).pifPresent = s.pifPresent := rfl
@[simp] theorem withHiLo_inputMask (s : State) (hi lo : DWord) : (withHiLo s hi lo).inputMask = s.inputMask := rfl
@[simp] theorem withHiLo_pendingInput (s : State) (hi lo : DWord) : (withHiLo s hi lo).pendingInput = s.pendingInput := rfl
@[simp] theorem withHiLo_extActive (s : State) (hi lo : DWord) : (withHiLo s hi lo).extActive = s.extActive := rfl
@[simp] theorem withHiLo_cache (s : State) (hi lo : DWord) : (withHiLo s hi lo).cache = s.cache := rfl
@[simp] theorem withHiLo_params (s : State) (hi lo : DWord) : (withHiLo s hi lo).params = s.params := rfl
@[simp] theorem withHiLo_frame (s : State) (hi lo : DWord) : (withHiLo s hi lo).frame = s.frame := rfl
@[simp] theorem withHiLo_stepFault (s : State) (hi lo : DWord) : (withHiLo s hi lo).stepFault = s.stepFault := rfl
@[simp] theorem withHiLo_draws (s : State) (hi lo : DWord) : (withHiLo s hi lo).draws = s.draws := rfl

/-! ## setStatusBit -/

@[simp] theorem setStatusBit_regs (s : State) (n : Nat) (b : Bool) : (setStatusBit s n b).regs = s.regs := rfl
@[simp] theorem setStatusBit_pc (s : State) (n : Nat) (b : Bool) : (setStatusBit s n b).pc = s.pc := rfl
@[simp] theorem setStatusBit_nextPc (s : State) (n : Nat) (b : Bool) : (setStatusBit s n b).nextPc = s.nextPc := rfl
@[simp] theorem setStatusBit_inDelaySlot (s : State) (n : Nat) (b : Bool) : (setStatusBit s n b).inDelaySlot = s.inDelaySlot := rfl
@[simp] theorem setStatusBit_hi (s : State) (n : Nat) (b : Bool) : (setStatusBit s n b).hi = s.hi := rfl
@[simp] theorem setStatusBit_lo (s : State) (n : Nat) (b : Bool) : (setStatusBit s n b).lo = s.lo := rfl
@[simp] theorem setStatusBit_llbit (s : State) (n : Nat) (b : Bool) : (setStatusBit s n b).llbit = s.llbit := rfl
@[simp] theorem setStatusBit_tlb (s : State) (n : Nat) (b : Bool) : (setStatusBit s n b).tlb = s.tlb := rfl
@[simp] theorem setStatusBit_core (s : State) (n : Nat) (b : Bool) : (setStatusBit s n b).core = s.core := rfl
@[simp] theorem setStatusBit_shouldRun (s : State) (n : Nat) (b : Bool) : (setStatusBit s n b).shouldRun = s.shouldRun := rfl
@[simp] theorem setStatusBit_cycles (s : State) (n : Nat) (b : Bool) : (setStatusBit s n b).cycles = s.cycles := rfl
@[simp] theorem setStatusBit_refused (s : State) (n : Nat) (b : Bool) : (setStatusBit s n b).refused = s.refused := rfl
@[simp] theorem setStatusBit_hiReadAge (s : State) (n : Nat) (b : Bool) : (setStatusBit s n b).hiReadAge = s.hiReadAge := rfl
@[simp] theorem setStatusBit_loReadAge (s : State) (n : Nat) (b : Bool) : (setStatusBit s n b).loReadAge = s.loReadAge := rfl
@[simp] theorem setStatusBit_mi (s : State) (n : Nat) (b : Bool) : (setStatusBit s n b).mi = s.mi := rfl
@[simp] theorem setStatusBit_vi (s : State) (n : Nat) (b : Bool) : (setStatusBit s n b).vi = s.vi := rfl
@[simp] theorem setStatusBit_timer (s : State) (n : Nat) (b : Bool) : (setStatusBit s n b).timer = s.timer := rfl
@[simp] theorem setStatusBit_mem (s : State) (n : Nat) (b : Bool) : (setStatusBit s n b).mem = s.mem := rfl
@[simp] theorem setStatusBit_romLen (s : State) (n : Nat) (b : Bool) : (setStatusBit s n b).romLen = s.romLen := rfl
@[simp] theorem setStatusBit_pifPresent (s : State) (n : Nat) (b : Bool) : (setStatusBit s n b).pifPresent = s.pifPresent := rfl
@[simp] theorem setStatusBit_inputMask (s : State) (n : Nat) (b : Bool) : (setStatusBit s n b).inputMask = s.inputMask := rfl
@[simp] theorem setStatusBit_pendingInput (s : State) (n : Nat) (b : Bool) : (setStatusBit s n b).pendingInput = s.pendingInput := rfl
@[simp] theorem setStatusBit_extActive (s : State) (n : Nat) (b : Bool) : (setStatusBit s n b).extActive = s.extActive := rfl
@[simp] theorem setStatusBit_cache (s : State) (n : Nat) (b : Bool) : (setStatusBit s n b).cache = s.cache := rfl
@[simp] theorem setStatusBit_params (s : State) (n : Nat) (b : Bool) : (setStatusBit s n b).params = s.params := rfl
@[simp] theorem setStatusBit_frame (s : State) (n : Nat) (b : Bool) : (setStatusBit s n b).frame = s.frame := rfl
@[simp] theorem setStatusBit_stepFault (s : State) (n : Nat) (b : Bool) : (setStatusBit s n b).stepFault = s.stepFault := rfl
@[simp] theorem setStatusBit_draws (s : State) (n : Nat) (b : Bool) : (setStatusBit s n b).draws = s.draws := rfl

@[simp] theorem causeCE_regs (e : Exc) (s : State) : (causeCE e s).2.regs = s.regs := by cases e <;> rfl
@[simp] theorem causeCE_pc (e : Exc) (s : State) : (causeCE e s).2.pc = s.pc := by cases e <;> rfl
@[simp] theorem causeCE_nextPc (e : Exc) (s : State) : (causeCE e s).2.nextPc = s.nextPc := by cases e <;> rfl
@[simp] theorem causeCE_inDelaySlot (e : Exc) (s : State) : (causeCE e s).2.inDelaySlot = s.inDelaySlot := by cases e <;> rfl
@[simp] theorem causeCE_hi (e : Exc) (s : State) : (causeCE e s).2.hi = s.hi := by cases e <;> rfl
@[simp] theorem causeCE_lo (e : Exc) (s : State) : (causeCE e s).2.lo = s.lo := by cases e <;> rfl
@[simp] theorem causeCE_llbit (e : Exc) (s : State) : (causeCE e s).2.llbit = s.llbit := by cases e <;> rfl
@[simp] theorem causeCE_cp0 (e : Exc) (s : State) : (causeCE e s).2.cp0 = s.cp0 := by cases e <;> rfl
@[simp] theorem causeCE_tlb (e : Exc) (s : State) : (causeCE e s).2.tlb = s.tlb := by cases e <;> rfl
@[simp] theorem causeCE_core (e : Exc) (s : State) : (causeCE e s).2.core = s.core := by cases e <;> rfl
@[simp] theorem causeCE_shouldRun (e : Exc) (s : State) : (causeCE e s).2.shouldRun = s.shouldRun := by cases e <;> rfl
@[simp] theorem causeCE_cycles (e : Exc) (s : State) : (causeCE e s).2.cycles = s.cycles := by cases e <;> rfl
@[simp] theorem causeCE_refused (e : Exc) (s : State) : (causeCE e s).2.refused = s.refused := by cases e <;> rfl
@[simp] theorem causeCE_hiReadAge (e : Exc) (s : State) : (causeCE e s).2.hiReadAge = s.hiReadAge := by cases e <;> rfl
@[simp] theorem causeCE_loReadAge (e : Exc) (s : State) : (causeCE e s).2.loReadAge = s.loReadAge := by cases e <;> rfl
@[simp] theorem causeCE_mi (e : Exc) (s : State) : (causeCE e s).2.mi = s.mi := by cases e <;> rfl
@[simp] theorem causeCE_vi (e : Exc) (s : State) : (causeCE e s).2.vi = s.vi := by cases e <;> rfl
@[simp] theorem causeCE_timer (e : Exc) (s : State) : (causeCE e s).2.timer = s.timer := by cases e <;> rfl
@[simp] theorem causeCE_mem (e : Exc) (s : State) : (causeCE e s).2.mem = s.mem := by cases e <;> rfl
@[simp] theorem causeCE_romLen (e : Exc) (s : State) : (causeCE e s).2.romLen = s.romLen := by cases e <;> rfl
@[simp] theorem causeCE_pifPresent (e : Exc) (s : State) : (causeCE e s).2.pifPresent = s.pifPresent := by cases e <;> rfl
@[simp] theorem causeCE_inputMask (e : Exc) (s : State) : (causeCE e s).2.inputMask = s.inputMask := by cases e <;> rfl
@[simp] theorem causeCE_pendingInput (e : Exc) (s : State) : (causeCE e s).2.pendingInput = s.pendingInput := by cases e <;> rfl
@[simp] theorem causeCE_extActive (e : Exc) (s : State) : (causeCE e s).2.extActive = s.extActive := by cases e <;> rfl
@[simp] theorem causeCE_cache (e : Exc) (s : State) : (causeCE e s).2.cache = s.cache := by cases e <;> rfl
@[simp] theorem causeCE_params (e : Exc) (s : State) : (causeCE e s).2.params = s.params := by cases e <;> rfl
@[simp] theorem causeCE_frame (e : Exc) (s : State) : (causeCE e s).2.frame = s.frame := by cases e <;> rfl
@[simp] theorem causeCE_stepFault (e : Exc) (s : State) : (causeCE e s).2.stepFault = s.stepFault := by cases e <;> rfl

/-! ## exceptionEntry -/

@[simp] theorem exceptionEntry_regs (e : Exc) (s : State) : (exceptionEntry e s).regs = s.regs := causeCE_regs e s
@[simp] theorem exceptionEntry_hi (e : Exc) (s : State) : (exceptionEntry e s).hi = s.hi := causeCE_hi e s
@[simp] theorem exceptionEntry_lo (e : Exc) (s : State) : (exceptionEntry e s).lo = s.lo := causeCE_lo e s
@[simp] theorem exceptionEntry_llbit (e : Exc) (s : State) : (exceptionEntry e s).llbit = s.llbit := causeCE_llbit e s
@[simp] theorem exceptionEntry_tlb (e : Exc) (s : State) : (exceptionEntry e s).tlb = s.tlb := causeCE_tlb e s
@[simp] theorem exceptionEntry_core (e : Exc) (s : State) : (exceptionEntry e s).core = s.core := causeCE_core e s
@[simp] theorem exceptionEntry_shouldRun (e : Exc) (s : State) : (exceptionEntry e s).shouldRun = s.shouldRun := causeCE_shouldRun e s
@[simp] theorem exceptionEntry_cycles (e : Exc) (s : State) : (exceptionEntry e s).cycles = s.cycles := causeCE_cycles e s
@[simp] theorem exceptionEntry_refused (e : Exc) (s : State) : (exceptionEntry e s).refused = s.refused := causeCE_refused e s
@[simp] theorem exceptionEntry_hiReadAge (e : Exc) (s : State) : (exceptionEntry e s).hiReadAge = s.hiReadAge := causeCE_hiReadAge e s
@[simp] theorem exceptionEntry_loReadAge (e : Exc) (s : State) : (exceptionEntry e s).loReadAge = s.loReadAge := causeCE_loReadAge e s
@[simp] theorem exceptionEntry_mi (e : Exc) (s : State) : (exceptionEntry e s).mi = s.mi := causeCE_mi e s
@[simp] theorem exceptionEntry_vi (e : Exc) (s : State) : (exceptionEntry e s).vi = s.vi := causeCE_vi e s
@[simp] theorem exceptionEntry_timer (e : Exc) (s : State) : (exceptionEntry e s).timer = s.timer := causeCE_timer e s
@[simp] theorem exceptionEntry_mem (e : Exc) (s : State) : (exceptionEntry e s).mem = s.mem := causeCE_mem e s
@[simp] theorem exceptionEntry_romLen (e : Exc) (s : State) : (exceptionEntry e s).romLen = s.romLen := causeCE_romLen e s
@[simp] theorem exceptionEntry_pifPresent (e : Exc) (s : State) : (exceptionEntry e s).pifPresent = s.pifPresent := causeCE_pifPresent e s
@[simp] theorem exceptionEntry_inputMask (e : Exc) (s : State) : (exceptionEntry e s).inputMask = s.inputMask := causeCE_inputMask e s
@[simp] theorem exceptionEntry_pendingInput (e : Exc) (s : State) : (exceptionEntry e s).pendingInput = s.pendingInput := causeCE_pendingInput e s
@[simp] theorem exceptionEntry_extActive (e : Exc) (s : State) : (exceptionEntry e s).extActive = s.extActive := causeCE_extActive e s
@[simp] theorem exceptionEntry_cache (e : Exc) (s : State) : (exceptionEntry e s).cache = s.cache := causeCE_cache e s
@[simp] theorem exceptionEntry_params (e : Exc) (s : State) : (exceptionEntry e s).params = s.params := causeCE_params e s
@[simp] theorem exceptionEntry_frame (e : Exc) (s : State) : (exceptionEntry e s).frame = s.frame := causeCE_frame e s
@[simp] theorem exceptionEntry_stepFault (e : Exc) (s : State) : (exceptionEntry e s).stepFault = s.stepFault := causeCE_stepFault e s

@[simp] theorem exceptionEntry_inDelaySlot (e : Exc) (s : State) : (exceptionEntry e s).inDelaySlot = false := rfl
@[simp] theorem exceptionEntry_nextPc (e : Exc) (s : State) : (exceptionEntry e s).nextPc = (exceptionEntry e s).pc + 4 := rfl

/-! ## takeException -/

@[simp] theorem takeException_stepFault (e : Exc) (s : State) : (takeException e s).stepFault = some e.name := rfl
@[simp] theorem takeException_regs (e : Exc) (s : State) : (takeException e s).regs = s.regs := causeCE_regs e s
@[simp] theorem takeException_hi (e : Exc) (s : State) : (takeException e s).hi = s.hi := causeCE_hi e s
@[simp] theorem takeException_lo (e : Exc) (s : State) : (takeException e s).lo = s.lo := causeCE_lo e s
@[simp] theorem takeException_llbit (e : Exc) (s : State) : (takeException e s).llbit = s.llbit := causeCE_llbit e s
@[simp] theorem takeException_tlb (e : Exc) (s : State) : (takeException e s).tlb = s.tlb := causeCE_tlb e s
@[simp] theorem takeException_core (e : Exc) (s : State) : (takeException e s).core = s.core := causeCE_core e s
@[simp] theorem takeException_shouldRun (e : Exc) (s : State) : (takeException e s).shouldRun = s.shouldRun := causeCE_shouldRun e s
@[simp] theorem takeException_cycles (e : Exc) (s : State) : (takeException e s).cycles = s.cycles := causeCE_cycles e s
@[simp] theorem takeException_refused (e : Exc) (s : State) : (takeException e s).refused = s.refused := causeCE_refused e s
@[simp] theorem takeException_hiReadAge (e : Exc) (s : State) : (takeException e s).hiReadAge = s.hiReadAge := causeCE_hiReadAge e s
@[simp] theorem takeException_loReadAge (e : Exc) (s : State) : (takeException e s).loReadAge = s.loReadAge := causeCE_loReadAge e s
@[simp] theorem takeException_mi (e : Exc) (s : State) : (takeException e s).mi = s.mi := causeCE_mi e s
@[simp] theorem takeException_vi (e : Exc) (s : State) : (takeException e s).vi = s.vi := causeCE_vi e s
@[simp] theorem takeException_timer (e : Exc) (s : State) : (takeException e s).timer = s.timer := causeCE_timer e s
@[simp] theorem takeException_mem (e : Exc) (s : State) : (takeException e s).mem = s.mem := causeCE_mem e s
@[simp] theorem takeException_romLen (e : Exc) (s : State) : (takeException e s).romLen = s.romLen := causeCE_romLen e s
@[simp] theorem takeException_pifPresent (e : Exc) (s : State) : (takeException e s).pifPresent = s.pifPresent := causeCE_pifPresent e s
@[simp] theorem takeException_inputMask (e : Exc) (s : State) : (takeException e s).inputMask = s.inputMask := causeCE_inputMask e s
@[simp] theorem takeException_pendingInput (e : Exc) (s : State) : (takeException e s).pendingInput = s.pendingInput := causeCE_pendingInput e s
@[simp] theorem takeException_extActive (e : Exc) (s : State) : (takeException e s).extActive = s.extActive := causeCE_extActive e s
@[simp] theorem takeException_cache (e : Exc) (s : State) : (takeException e s).cache = s.cache := causeCE_cache e s
@[simp] theorem takeException_params (e : Exc) (s : State) : (takeException e s).params = s.params := causeCE_params e s
@[simp] theorem takeException_frame (e : Exc) (s : State) : (takeException e s).frame = s.frame := causeCE_frame e s

@[simp] theorem takeException_pc (e : Exc) (s : State) : (takeException e s).pc = (exceptionEntry e s).pc := rfl
@[simp] theorem takeException_nextPc (e : Exc) (s : State) : (takeException e s).nextPc = (exceptionEntry e s).pc + 4 := rfl
@[simp] theorem takeException_cp0 (e : Exc) (s : State) : (takeException e s).cp0 = (exceptionEntry e s).cp0 := rfl
@[simp] theorem takeException_inDelaySlot (e : Exc) (s : State) : (takeException e s).inDelaySlot = false := rfl

/-! ## exceptionReturn -/

@[simp] theorem exceptionReturn_llbit (s : State) : (exceptionReturn s).llbit = false := rfl
@[simp] theorem exceptionReturn_pc (s : State) : (exceptionReturn s).pc = returnAddress s := rfl
@[simp] theorem exceptionReturn_nextPc (s : State) : (exceptionReturn s).nextPc = returnAddress s + 4 := rfl
@[simp] theorem exceptionReturn_inDelaySlot (s : State) : (exceptionReturn s).inDelaySlot = false := rfl
@[simp] theorem exceptionReturn_regs (s : State) : (exceptionReturn s).regs = s.regs := rfl
@[simp] theorem exceptionReturn_hi (s : State) : (exceptionReturn s).hi = s.hi := rfl
@[simp] theorem exceptionReturn_lo (s : State) : (exceptionReturn s).lo = s.lo := rfl
@[simp] theorem exceptionReturn_tlb (s : State) : (exceptionReturn s).tlb = s.tlb := rfl
@[simp] theorem exceptionReturn_core (s : State) : (exceptionReturn s).core = s.core := rfl
@[simp] theorem exceptionReturn_shouldRun (s : State) : (exceptionReturn s).shouldRun = s.shouldRun := rfl
@[simp] theorem exceptionReturn_cycles (s : State) : (exceptionReturn s).cycles = s.cycles := rfl
@[simp] theorem exceptionReturn_refused (s : State) : (exceptionReturn s).refused = s.refused := rfl
@[simp] theorem exceptionReturn_hiReadAge (s : State) : (exceptionReturn s).hiReadAge = s.hiReadAge := rfl
@[simp] theorem exceptionReturn_loReadAge (s : State) : (exceptionReturn s).loReadAge = s.loReadAge := rfl
@[simp] theorem exceptionReturn_mi (s : State) : (exceptionReturn s).mi = s.mi := rfl
@[simp] theorem exceptionReturn_vi (s : State) : (exceptionReturn s).vi = s.vi := rfl
@[simp] theorem exceptionReturn_timer (s : State) : (exceptionReturn s).timer = s.timer := rfl
@[simp] theorem exceptionReturn_mem (s : State) : (exceptionReturn s).mem = s.mem := rfl
@[simp] theorem exceptionReturn_romLen (s : State) : (exceptionReturn s).romLen = s.romLen := rfl
@[simp] theorem exceptionReturn_pifPresent (s : State) : (exceptionReturn s).pifPresent = s.pifPresent := rfl
@[simp] theorem exceptionReturn_inputMask (s : State) : (exceptionReturn s).inputMask = s.inputMask := rfl
@[simp] theorem exceptionReturn_pendingInput (s : State) : (exceptionReturn s).pendingInput = s.pendingInput := rfl
@[simp] theorem exceptionReturn_extActive (s : State) : (exceptionReturn s).extActive = s.extActive := rfl
@[simp] theorem exceptionReturn_cache (s : State) : (exceptionReturn s).cache = s.cache := rfl
@[simp] theorem exceptionReturn_params (s : State) : (exceptionReturn s).params = s.params := rfl
@[simp] theorem exceptionReturn_frame (s : State) : (exceptionReturn s).frame = s.frame := rfl
@[simp] theorem exceptionReturn_stepFault (s : State) : (exceptionReturn s).stepFault = s.stepFault := rfl
@[simp] theorem exceptionReturn_draws (s : State) : (exceptionReturn s).draws = s.draws := rfl

/-! ## beginStep -/

@[simp] theorem beginStep_cycles (s : State) : (beginStep s).cycles = s.cycles + BitVec.ofNat 64 s.params.cpi := rfl
@[simp] theorem beginStep_hiReadAge (s : State) : (beginStep s).hiReadAge = s.hiReadAge - 1 := rfl
@[simp] theorem beginStep_loReadAge (s : State) : (beginStep s).loReadAge = s.loReadAge - 1 := rfl
@[simp] theorem beginStep_stepFault (s : State) : (beginStep s).stepFault = none := rfl
@[simp] theorem beginStep_regs (s : State) : (beginStep s).regs = s.regs := rfl
@[simp] theorem beginStep_pc (s : State) : (beginStep s).pc = s.pc := rfl
@[simp] theorem beginStep_nextPc (s : State) : (beginStep s).nextPc = s.nextPc := rfl
@[simp] theorem beginStep_inDelaySlot (s : State) : (beginStep s).inDelaySlot = s.inDelaySlot := rfl
@[simp] theorem beginStep_hi (s : State) : (beginStep s).hi = s.hi := rfl
@[simp] theorem beginStep_lo (s : State) : (beginStep s).lo = s.lo := rfl
@[simp] theorem beginStep_llbit (s : State) : (beginStep s).llbit = s.llbit := rfl
@[simp] theorem beginStep_cp0 (s : State) : (beginStep s).cp0 = s.cp0 := rfl
@[simp] theorem beginStep_tlb (s : State) : (beginStep s).tlb = s.tlb := rfl
@[simp] theorem beginStep_core (s : State) : (beginStep s).core = s.core := rfl
@[simp] theorem beginStep_shouldRun (s : State) : (beginStep s).shouldRun = s.shouldRun := rfl
@[simp] theorem beginStep_refused (s : State) : (beginStep s).refused = s.refused := rfl
@[simp] theorem beginStep_mi (s : State) : (beginStep s).mi = s.mi := rfl
@[simp] theorem beginStep_vi (s : State) : (beginStep s).vi = s.vi := rfl
@[simp] theorem beginStep_timer (s : State) : (beginStep s).timer = s.timer := rfl
@[simp] theorem beginStep_mem (s : State) : (beginStep s).mem = s.mem := rfl
@[simp] theorem beginStep_romLen (s : State) : (beginStep s).romLen = s.romLen := rfl
@[simp] theorem beginStep_pifPresent (s : State) : (beginStep s).pifPresent = s.pifPresent := rfl
@[simp] theorem beginStep_inputMask (s : State) : (beginStep s).inputMask = s.inputMask := rfl
@[simp] theorem beginStep_pendingInput (s : State) : (beginStep s).pendingInput = s.pendingInput := rfl
@[simp] theorem beginStep_extActive (s : State) : (beginStep s).extActive = s.extActive := rfl
@[simp] theorem beginStep_cache (s : State) : (beginStep s).cache = s.cache := rfl
@[simp] theorem beginStep_params (s : State) : (beginStep s).params = s.params := rfl
@[simp] theorem beginStep_frame (s : State) : (beginStep s).frame = s.frame := rfl
@[simp] theorem beginStep_draws (s : State) : (beginStep s).draws = s.draws := rfl

/-! ## countStep -/

@[simp] theorem countStep_regs (s : State) : (countStep s).regs = s.regs := rfl
@[simp] theorem countStep_pc (s : State) : (countStep s).pc = s.pc := rfl
@[simp] theorem countStep_nextPc (s : State) : (countStep s).nextPc = s.nextPc := rfl
@[simp] theorem countStep_inDelaySlot (s : State) : (countStep s).inDelaySlot = s.inDelaySlot := rfl
@[simp] theorem countStep_hi (s : State) : (countStep s).hi = s.hi := rfl
@[simp] theorem countStep_lo (s : State) : (countStep s).lo = s.lo := rfl
@[simp] theorem countStep_llbit (s : State) : (countStep s).llbit = s.llbit := rfl
@[simp] theorem countStep_cp0 (s : State) : (countStep s).cp0 = s.cp0 := rfl
@[simp] theorem countStep_tlb (s : State) : (countStep s).tlb = s.tlb := rfl
@[simp] theorem countStep_core (s : State) : (countStep s).core = s.core := rfl
@[simp] theorem countStep_shouldRun (s : State) : (countStep s).shouldRun = s.shouldRun := rfl
@[simp] theorem countStep_cycles (s : State) : (countStep s).cycles = s.cycles := rfl
@[simp] theorem countStep_refused (s : State) : (countStep s).refused = s.refused := rfl
@[simp] theorem countStep_hiReadAge (s : State) : (countStep s).hiReadAge = s.hiReadAge := rfl
@[simp] theorem countStep_loReadAge (s : State) : (countStep s).loReadAge = s.loReadAge := rfl
@[simp] theorem countStep_mi (s : State) : (countStep s).mi = s.mi := rfl
@[simp] theorem countStep_vi (s : State) : (countStep s).vi = s.vi := rfl
@[simp] theorem countStep_timer (s : State) : (countStep s).timer = s.timer := rfl
@[simp] theorem countStep_mem (s : State) : (countStep s).mem = s.mem := rfl
@[simp] theorem countStep_romLen (s : State) : (countStep s).romLen = s.romLen := rfl
@[simp] theorem countStep_pifPresent (s : State) : (countStep s).pifPresent = s.pifPresent := rfl
@[simp] theorem countStep_inputMask (s : State) : (countStep s).inputMask = s.inputMask := rfl
@[simp] theorem countStep_pendingInput (s : State) : (countStep s).pendingInput = s.pendingInput := rfl
@[simp] theorem countStep_extActive (s : State) : (countStep s).extActive = s.extActive := rfl
@[simp] theorem countStep_cache (s : State) : (countStep s).cache = s.cache := rfl
@[simp] theorem countStep_params (s : State) : (countStep s).params = s.params := rfl
@[simp] theorem countStep_stepFault (s : State) : (countStep s).stepFault = s.stepFault := rfl
@[simp] theorem countStep_draws (s : State) : (countStep s).draws = s.draws := rfl

/-! ## beginFrame -/

@[simp] theorem beginFrame_regs (s : State) : (beginFrame s).regs = s.regs := rfl
@[simp] theorem beginFrame_pc (s : State) : (beginFrame s).pc = s.pc := rfl
@[simp] theorem beginFrame_nextPc (s : State) : (beginFrame s).nextPc = s.nextPc := rfl
@[simp] theorem beginFrame_inDelaySlot (s : State) : (beginFrame s).inDelaySlot = s.inDelaySlot := rfl
@[simp] theorem beginFrame_hi (s : State) : (beginFrame s).hi = s.hi := rfl
@[simp] theorem beginFrame_lo (s : State) : (beginFrame s).lo = s.lo := rfl
@[simp] theorem beginFrame_llbit (s : State) : (beginFrame s).llbit = s.llbit := rfl
@[simp] theorem beginFrame_cp0 (s : State) : (beginFrame s).cp0 = s.cp0 := rfl
@[simp] theorem beginFrame_tlb (s : State) : (beginFrame s).tlb = s.tlb := rfl
@[simp] theorem beginFrame_shouldRun (s : State) : (beginFrame s).shouldRun = s.shouldRun := rfl
@[simp] theorem beginFrame_cycles (s : State) : (beginFrame s).cycles = s.cycles := rfl
@[simp] theorem beginFrame_refused (s : State) : (beginFrame s).refused = s.refused := rfl
@[simp] theorem beginFrame_hiReadAge (s : State) : (beginFrame s).hiReadAge = s.hiReadAge := rfl
@[simp] theorem beginFrame_loReadAge (s : State) : (beginFrame s).loReadAge = s.loReadAge := rfl
@[simp] theorem beginFrame_mi (s : State) : (beginFrame s).mi = s.mi := rfl
@[simp] theorem beginFrame_vi (s : State) : (beginFrame s).vi = s.vi := rfl
@[simp] theorem beginFrame_timer (s : State) : (beginFrame s).timer = s.timer := rfl
@[simp] theorem beginFrame_mem (s : State) : (beginFrame s).mem = s.mem := rfl
@[simp] theorem beginFrame_romLen (s : State) : (beginFrame s).romLen = s.romLen := rfl
@[simp] theorem beginFrame_pifPresent (s : State) : (beginFrame s).pifPresent = s.pifPresent := rfl
@[simp] theorem beginFrame_extActive (s : State) : (beginFrame s).extActive = s.extActive := rfl
@[simp] theorem beginFrame_cache (s : State) : (beginFrame s).cache = s.cache := rfl
@[simp] theorem beginFrame_params (s : State) : (beginFrame s).params = s.params := rfl
@[simp] theorem beginFrame_stepFault (s : State) : (beginFrame s).stepFault = s.stepFault := rfl
@[simp] theorem beginFrame_draws (s : State) : (beginFrame s).draws = s.draws := rfl

/-! ## closeFrame -/

@[simp] theorem closeFrame_regs (s : State) : (closeFrame s).regs = s.regs := rfl
@[simp] theorem closeFrame_pc (s : State) : (closeFrame s).pc = s.pc := rfl
@[simp] theorem closeFrame_nextPc (s : State) : (closeFrame s).nextPc = s.nextPc := rfl
@[simp] theorem closeFrame_inDelaySlot (s : State) : (closeFrame s).inDelaySlot = s.inDelaySlot := rfl
@[simp] theorem closeFrame_hi (s : State) : (closeFrame s).hi = s.hi := rfl
@[simp] theorem closeFrame_lo (s : State) : (closeFrame s).lo = s.lo := rfl
@[simp] theorem closeFrame_llbit (s : State) : (closeFrame s).llbit = s.llbit := rfl
@[simp] theorem closeFrame_cp0 (s : State) : (closeFrame s).cp0 = s.cp0 := rfl
@[simp] theorem closeFrame_tlb (s : State) : (closeFrame s).tlb = s.tlb := rfl
@[simp] theorem closeFrame_core (s : State) : (closeFrame s).core = s.core := rfl
@[simp] theorem closeFrame_shouldRun (s : State) : (closeFrame s).shouldRun = s.shouldRun := rfl
@[simp] theorem closeFrame_cycles (s : State) : (closeFrame s).cycles = s.cycles := rfl
@[simp] theorem closeFrame_refused (s : State) : (closeFrame s).refused = s.refused := rfl
@[simp] theorem closeFrame_hiReadAge (s : State) : (closeFrame s).hiReadAge = s.hiReadAge := rfl
@[simp] theorem closeFrame_loReadAge (s : State) : (closeFrame s).loReadAge = s.loReadAge := rfl
@[simp] theorem closeFrame_mi (s : State) : (closeFrame s).mi = s.mi := rfl
@[simp] theorem closeFrame_vi (s : State) : (closeFrame s).vi = s.vi := rfl
@[simp] theorem closeFrame_timer (s : State) : (closeFrame s).timer = s.timer := rfl
@[simp] theorem closeFrame_mem (s : State) : (closeFrame s).mem = s.mem := rfl
@[simp] theorem closeFrame_romLen (s : State) : (closeFrame s).romLen = s.romLen := rfl
@[simp] theorem closeFrame_pifPresent (s : State) : (closeFrame s).pifPresent = s.pifPresent := rfl
@[simp] theorem closeFrame_inputMask (s : State) : (closeFrame s).inputMask = s.inputMask := rfl
@[simp] theorem closeFrame_pendingInput (s : State) : (closeFrame s).pendingInput = s.pendingInput := rfl
@[simp] theorem closeFrame_extActive (s : State) : (closeFrame s).extActive = s.extActive := rfl
@[simp] theorem closeFrame_cache (s : State) : (closeFrame s).cache = s.cache := rfl
@[simp] theorem closeFrame_params (s : State) : (closeFrame s).params = s.params := rfl
@[simp] theorem closeFrame_stepFault (s : State) : (closeFrame s).stepFault = s.stepFault := rfl
@[simp] theorem closeFrame_draws (s : State) : (closeFrame s).draws = s.draws := rfl

/-! ## tickDevices -/

@[simp] theorem tickDevices_regs (n : Nat) (s : State) : (tickDevices n s).regs = s.regs := rfl
@[simp] theorem tickDevices_pc (n : Nat) (s : State) : (tickDevices n s).pc = s.pc := rfl
@[simp] theorem tickDevices_nextPc (n : Nat) (s : State) : (tickDevices n s).nextPc = s.nextPc := rfl
@[simp] theorem tickDevices_inDelaySlot (n : Nat) (s : State) : (tickDevices n s).inDelaySlot = s.inDelaySlot := rfl
@[simp] theorem tickDevices_hi (n : Nat) (s : State) : (tickDevices n s).hi = s.hi := rfl
@[simp] theorem tickDevices_lo (n : Nat) (s : State) : (tickDevices n s).lo = s.lo := rfl
@[simp] theorem tickDevices_llbit (n : Nat) (s : State) : (tickDevices n s).llbit = s.llbit := rfl
@[simp] theorem tickDevices_tlb (n : Nat) (s : State) : (tickDevices n s).tlb = s.tlb := rfl
@[simp] theorem tickDevices_core (n : Nat) (s : State) : (tickDevices n s).core = s.core := rfl
@[simp] theorem tickDevices_shouldRun (n : Nat) (s : State) : (tickDevices n s).shouldRun = s.shouldRun := rfl
@[simp] theorem tickDevices_cycles (n : Nat) (s : State) : (tickDevices n s).cycles = s.cycles := rfl
@[simp] theorem tickDevices_refused (n : Nat) (s : State) : (tickDevices n s).refused = s.refused := rfl
@[simp] theorem tickDevices_hiReadAge (n : Nat) (s : State) : (tickDevices n s).hiReadAge = s.hiReadAge := rfl
@[simp] theorem tickDevices_loReadAge (n : Nat) (s : State) : (tickDevices n s).loReadAge = s.loReadAge := rfl
@[simp] theorem tickDevices_mem (n : Nat) (s : State) : (tickDevices n s).mem = s.mem := rfl
@[simp] theorem tickDevices_romLen (n : Nat) (s : State) : (tickDevices n s).romLen = s.romLen := rfl
@[simp] theorem tickDevices_pifPresent (n : Nat) (s : State) : (tickDevices n s).pifPresent = s.pifPresent := rfl
@[simp] theorem tickDevices_inputMask (n : Nat) (s : State) : (tickDevices n s).inputMask = s.inputMask := rfl
@[simp] theorem tickDevices_pendingInput (n : Nat) (s : State) : (tickDevices n s).pendingInput = s.pendingInput := rfl
@[simp] theorem tickDevices_extActive (n : Nat) (s : State) : (tickDevices n s).extActive = s.extActive := rfl
@[simp] theorem tickDevices_cache (n : Nat) (s : State) : (tickDevices n s).cache = s.cache := rfl
@[simp] theorem tickDevices_params (n : Nat) (s : State) : (tickDevices n s).params = s.params := rfl
@[simp] theorem tickDevices_frame (n : Nat) (s : State) : (tickDevices n s).frame = s.frame := rfl
@[simp] theorem tickDevices_stepFault (n : Nat) (s : State) : (tickDevices n s).stepFault = s.stepFault := rfl
@[simp] theorem tickDevices_draws (n : Nat) (s : State) : (tickDevices n s).draws = s.draws := rfl

/-! ## Draws, in conditions -/

@[simp] theorem draw_fst (s : State) : (draw s).1 = Config.draw s.draws := rfl

@[simp] theorem readReg_draw (s : State) (r : RegIdx) : readReg (draw s).2 r = readReg s r := rfl

@[simp] theorem ops64Enabled_draw (s : State) : ops64Enabled (draw s).2 = ops64Enabled s := rfl

@[simp] theorem readReg_advance (f : Flow) (s : State) (r : RegIdx) : readReg (advance f s) r = readReg s r := by
  cases f <;> rfl

@[simp] theorem readReg_takeException (e : Exc) (s : State) (r : RegIdx) : readReg (takeException e s) r = readReg s r := by
  simp [readReg]

end Sys2Proof.Machine
end

