-- ==== Sys2Proof/Laws/Ops.lean ====
section
/-! SUPPORT. For each shared operation, one lemma that says once what it can do: registers, outcomes, translation, data accesses, HI and
LO. -/

namespace Sys2Proof.Machine

/-! ## Registers (10_state.md R24, R25) -/

@[simp] theorem readReg_zero (s : State) : readReg s 0 = 0 := rfl

@[simp] theorem writeReg_zero (s : State) (v : DWord) : writeReg s 0 v = s := rfl

/-- A register other than r0 reads what was written to it last. -/
theorem readReg_writeReg_same (s : State) (i : RegIdx) (v : DWord) (h : i ≠ 0) : readReg (writeReg s i v) i = v := by
  unfold readReg writeReg
  rw [if_neg h, if_neg h]
  exact Vector.getElem_set_self _

/-- A write changes no other register. -/
theorem readReg_writeReg_other (s : State) (i j : RegIdx) (v : DWord) (h : j ≠ i) :
    readReg (writeReg s i v) j = readReg s j := by
  unfold readReg writeReg
  by_cases hi : i = 0
  · rw [if_pos hi]
  · have hne : i.toNat ≠ j.toNat := fun hc => h (BitVec.eq_of_toNat_eq hc.symm)
    rw [if_neg hi]
    split
    · rfl
    · exact Vector.getElem_set_ne (by have := i.isLt; omega) (by have := j.isLt; omega) hne

/-! ## Outcomes (10_state.md R31) -/

@[simp] theorem complete_ok (f : Flow) (s : State) : complete (.ok (f, s)) = .next (advance f s) := rfl

@[simp] theorem complete_raise (e : Exc) (s : State) : complete (.error (.raise e s)) = .next (takeException e s) := rfl

@[simp] theorem complete_refuse (r : Refusal) : complete (.error (.refuse r)) = .refused r := rfl

@[simp] theorem completeNext_ok (s : State) : completeNext (.ok s) = .next (advance .next s) := rfl

@[simp] theorem completeNext_raise (e : Exc) (s : State) : completeNext (.error (.raise e s)) = .next (takeException e s) := rfl

@[simp] theorem completeNext_refuse (r : Refusal) : completeNext (.error (.refuse r)) = .refused r := rfl

/-- A completed instruction answers a next state only by its effect or by the exception it takes. -/
theorem complete_next {r : Res (Flow × State)} {t : State} (h : complete r = .next t) :
    (∃ f s, r = .ok (f, s) ∧ t = advance f s) ∨ (∃ e s, r = .error (.raise e s) ∧ t = takeException e s) := by
  match r with
  | .ok (f, s) => exact .inl ⟨f, s, rfl, by simpa using h.symm⟩
  | .error (.raise e s) => exact .inr ⟨e, s, rfl, by simpa using h.symm⟩
  | .error (.refuse r) => simp at h

theorem completeNext_next {r : Res State} {t : State} (h : completeNext r = .next t) :
    (∃ s, r = .ok s ∧ t = advance .next s) ∨ (∃ e s, r = .error (.raise e s) ∧ t = takeException e s) := by
  match r with
  | .ok s => exact .inl ⟨s, rfl, by simpa using h.symm⟩
  | .error (.raise e s) => exact .inr ⟨e, s, rfl, by simpa using h.symm⟩
  | .error (.refuse r) => simp at h

/-- No outcome is a fault. -/
theorem complete_not_fault (r : Res (Flow × State)) (f : Fault) : complete r ≠ .fault f := nomatch f

/-! ## The checks (40_alu.md R125, 44_system.md R238) -/

theorem require64_ok {s : State} (h : ops64Enabled s = true) : require64 s = .ok () := by simp [require64, h]

theorem require64_raise {s : State} (h : ops64Enabled s = false) : require64 s = .error (.raise .ri s) := by
  simp [require64, h]

theorem requireCp0_ok {s : State} (h : cp0Usable s = true) : requireCp0 s = .ok () := by simp [requireCp0, h]

theorem requireCp0_raise {s : State} (h : cp0Usable s = false) : requireCp0 s = .error (.raise (.cpU 0) s) := by
  simp [requireCp0, h]

theorem after64_ok {s : State} (h : ops64Enabled s = true) (o : Out) : after64 s o = o := by simp [after64, h]

theorem after64_raise {s : State} (h : ops64Enabled s = false) (o : Out) : after64 s o = .next (takeException .ri s) := by
  simp [after64, h, raiseIn]

/-! ## HI and LO (41_muldiv.md R167, 70_reset_and_hazards.md R334) -/

theorem writePair_ok {s : State} (h : hiLoFree s) (hi lo : DWord) :
    writePair s hi lo = .next (advance .next (withHiLo s hi lo)) := by
  obtain ⟨h1, h2⟩ := h
  simp [writePair, writeHiLo, h1, h2, withHiLo]

theorem writePair_refused {s : State} (h : s.hiReadAge > 0 ∨ s.loReadAge > 0) (hi lo : DWord) :
    writePair s hi lo = .refused .hiLoHazard := by
  have : (decide (s.hiReadAge > 0) || decide (s.loReadAge > 0)) = true := by simpa using h
  simp only [writePair, writeHiLo, this, if_true, completeNext_refuse]

/-- A pair is written whole or not at all. -/
theorem writePair_next {s t : State} {hi lo : DWord} (h : writePair s hi lo = .next t) :
    hiLoFree s ∧ t = advance .next (withHiLo s hi lo) := by
  by_cases hf : s.hiReadAge > 0 ∨ s.loReadAge > 0
  · rw [writePair_refused hf] at h; exact absurd h (by simp)
  · have hf' : hiLoFree s := ⟨by omega, by omega⟩
    rw [writePair_ok hf'] at h
    exact ⟨hf', by simpa using h.symm⟩

/-! ## Translation (20_memory.md R91, R95) -/

/-- An exception of translation is raised in the state as it was, for the address as it was. -/
theorem translateEntry_raise {en : TlbEntry} {va : DWord} {kind : AccessKind} {s s' : State} {e : Exc}
    (h : translateEntry en va kind s = .error (.raise e s')) : s' = s ∧ e.badVAddr = some va := by
  unfold translateEntry at h
  simp only at h
  repeat' split at h
  all_goals first
    | (cases h; exact ⟨rfl, rfl⟩)
    | simp at h

theorem tlbTranslate_raise {va : DWord} {kind : AccessKind} {s s' : State} {e : Exc}
    (h : tlbTranslate va kind s = .error (.raise e s')) : s' = s ∧ e.badVAddr = some va := by
  unfold tlbTranslate at h
  split at h
  · cases h; exact ⟨rfl, rfl⟩
  · exact translateEntry_raise h
  · exact absurd h (by simp)

theorem translate_raise {va : DWord} {kind : AccessKind} {s s' : State} {e : Exc}
    (h : translate va kind s = .error (.raise e s')) : s' = s ∧ e.badVAddr = some va := by
  unfold translate at h
  simp only at h
  repeat' split at h
  all_goals first
    | exact tlbTranslate_raise h
    | (cases h; exact ⟨rfl, rfl⟩)
    | simp at h

theorem watchCheck_raise {pa : Word} {store : Bool} {s s' : State} {e : Exc}
    (h : watchCheck pa store s = .error (.raise e s')) : s' = s ∧ e = .watch := by
  unfold watchCheck at h
  repeat' split at h
  all_goals first
    | (cases h; exact ⟨rfl, rfl⟩)
    | simp at h

theorem watchCheck_ok {pa : Word} {store : Bool} {s : State} (h : watchMatches pa store s = false) :
    watchCheck pa store s = .ok () := by simp [watchCheck, h]

theorem watchCheck_eq_ok {pa : Word} {store : Bool} {s : State} {u : Unit} (h : watchCheck pa store s = .ok u) :
    watchMatches pa store s = false := by
  unfold watchCheck at h
  by_cases hw : watchMatches pa store s
  · rw [if_pos hw] at h; split at h <;> exact absurd h (by simp)
  · simpa using hw

/-! ## The cache checker (20_memory.md R101) -/

theorem cacheCheck_off {pa : Word} {kind : AccessKind} {cached : Bool} {s : State} (h : s.params.cacheCheck = false) :
    cacheCheck pa kind cached s = .ok s := by simp [cacheCheck, h]

/-- The checker changes its own sets only. -/
theorem cacheCheck_eq_ok {pa : Word} {kind : AccessKind} {cached : Bool} {s t : State}
    (h : cacheCheck pa kind cached s = .ok t) : ∃ c, t = { s with cache := c } := by
  unfold cacheCheck at h
  split at h
  · simp only at h
    split at h
    · exact ⟨_, by simpa using h.symm⟩
    · exact absurd h (by simp)
  · exact ⟨s.cache, by simpa using h.symm⟩

/-! ## The bus (20_memory.md R78, R87, R88) -/

/-- A read changes nothing but the draws it takes. -/
theorem physRead_eq_ok {s t : State} {pa : Word} {w : Width} {v : DWord} (h : physRead s pa w = .ok (v, t)) :
    ∃ d, t = { s with draws := d } := by
  unfold physRead at h
  repeat' split at h
  all_goals first
    | (simp only [extRead, Except.ok.injEq, Prod.mk.injEq] at h; exact ⟨_, h.2.symm⟩)
    | contradiction

/-- A write changes memory inside its unit, or the MI and the VI, or notes that an external store was made. -/
theorem physWriteMasked_eq_ok {s t : State} {pa : Word} {w : Width} {v : DWord} {mask : BitVec 8}
    (h : physWriteMasked s pa w v mask = .ok t) :
    t = { s with mem := t.mem, mi := t.mi, vi := t.vi, extActive := t.extActive } ∧
    (t.mem = s.mem ∨ t.mem = s.mem.writeBE pa.toNat mask w.bytes v) := by
  unfold physWriteMasked at h
  split at h
  · cases h; exact ⟨rfl, .inr rfl⟩
  · split at h
    · next hw => cases h; subst hw; exact ⟨rfl, .inr rfl⟩
    · exact absurd h (by simp)
  · exact absurd h (by simp)
  · exact absurd h (by simp)
  · repeat' split at h
    all_goals first
      | (simp only [Except.ok.injEq] at h; subst h; exact ⟨rfl, .inl rfl⟩)
      | simp at h
  · repeat' split at h
    all_goals first
      | (simp only [Except.ok.injEq] at h; subst h; exact ⟨rfl, .inl rfl⟩)
      | simp at h
  · cases h; exact ⟨rfl, .inl rfl⟩
  · cases h; exact ⟨rfl, .inl rfl⟩
  · exact absurd h (by simp)

theorem alignDown_toNat (pa : Word) (w : Width) : (alignDown pa w).toNat = pa.toNat / w.bytes * w.bytes := by
  have h := pa.isLt
  have key : ∀ k : Nat, k ≤ 3 → (pa &&& ~~~(BitVec.ofNat 32 (2 ^ k - 1))).toNat = pa.toNat / 2 ^ k * 2 ^ k := by
    intro k hk
    have e : pa &&& ~~~(BitVec.ofNat 32 (2 ^ k - 1)) = (pa >>> k) <<< k := by
      apply BitVec.eq_of_getLsbD_eq
      intro i hi
      have hb : (BitVec.ofNat 32 (2 ^ k - 1)).getLsbD i = decide (i < k) := by
        rw [BitVec.getLsbD_ofNat, Nat.testBit_two_pow_sub_one]
        simp [hi]
      simp only [BitVec.getLsbD_and, BitVec.getLsbD_not, hb, hi, decide_true, Bool.true_and, BitVec.getLsbD_shiftLeft,
        BitVec.getLsbD_ushiftRight]
      by_cases hik : i < k
      · simp [hik]
      · simp [hik, Nat.add_sub_cancel' (Nat.le_of_not_lt hik)]
    rw [e, BitVec.toNat_shiftLeft, BitVec.toNat_ushiftRight, Nat.shiftRight_eq_div_pow, Nat.shiftLeft_eq, Nat.mod_eq_of_lt]
    calc pa.toNat / 2 ^ k * 2 ^ k ≤ pa.toNat := Nat.div_mul_le_self _ _
      _ < 2 ^ 32 := h
  cases w
  · exact key 0 (by omega)
  · exact key 1 (by omega)
  · exact key 2 (by omega)
  · exact key 3 (by omega)

/-! ## Regions (20_memory.md R85, R86) -/

/-- The regions other than RDRAM and the hole after it do not depend on the parameters, and no two of them share an address. -/
theorem regionTable_tail_disjoint (p q : Params) :
    ((regionTable p).drop 2).Pairwise (fun a b => a.overlaps b = false) ∧ (regionTable p).drop 2 = (regionTable q).drop 2 := by
  refine ⟨?_, rfl⟩
  show ((regionTable Params.default).drop 2).Pairwise _
  decide

/-- Every region after the hole begins above it. -/
theorem regionTable_tail_first (p : Params) : ∀ r ∈ (regionTable p).drop 2, 0x03F00000 ≤ r.first := by
  show ∀ r ∈ (regionTable Params.default).drop 2, 0x03F00000 ≤ r.first
  decide

theorem regionTable_eq (p : Params) : regionTable p =
    ⟨0, p.rdramSize - 1, "RDRAM", .ram⟩ :: ⟨p.rdramSize, 0x03EFFFFF, "none", .unmapped⟩ :: (regionTable p).drop 2 := rfl

/-- No two regions of the table share an address, when RDRAM is no larger than its window. -/
theorem regionTable_disjoint {p : Params} (h0 : 0 < p.rdramSize) (h1 : p.rdramSize ≤ 0x03F00000) :
    (regionTable p).Pairwise (fun a b => a.overlaps b = false) := by
  rw [regionTable_eq, List.pairwise_cons, List.pairwise_cons]
  refine ⟨fun r hr => ?_, fun r hr => ?_, (regionTable_tail_disjoint p p).1⟩
  · simp only [Region.overlaps, Bool.and_eq_false_iff, decide_eq_false_iff_not]
    rcases List.mem_cons.1 hr with rfl | hr
    · exact .inr (by simp only; omega)
    · have := regionTable_tail_first p r hr; exact .inr (by omega)
  · have := regionTable_tail_first p r hr
    simp only [Region.overlaps, Bool.and_eq_false_iff, decide_eq_false_iff_not]
    exact .inr (by omega)

/-- An address is claimed by every region that contains it: there is only one. -/
theorem regionOf_eq {p : Params} {pa : Word} {r : Region} (h0 : 0 < p.rdramSize) (hs : p.rdramSize ≤ 0x03F00000)
    (hr : r ∈ regionTable p) (h1 : r.first ≤ pa.toNat) (h2 : pa.toNat ≤ r.last) : regionOf p pa = some r := by
  have aux : ∀ l : List Region, l.Pairwise (fun a b => a.overlaps b = false) → r ∈ l →
      l.find? (fun q => decide (q.first ≤ pa.toNat) && decide (pa.toNat ≤ q.last)) = some r := by
    intro l hl hm
    induction l with
    | nil => simp at hm
    | cons q l ih =>
      rw [List.pairwise_cons] at hl
      rcases List.mem_cons.1 hm with rfl | hm'
      · simp [h1, h2]
      · have hq := hl.1 r hm'
        rw [List.find?_cons_of_neg, ih hl.2 hm']
        simp only [Region.overlaps, Bool.and_eq_false_iff, decide_eq_false_iff_not] at hq
        simp only [Bool.and_eq_true, decide_eq_true_eq]
        omega
  exact aux (regionTable p) (regionTable_disjoint h0 hs) hr

theorem regionKind_eq {p : Params} {pa : Word} {r : Region} (h0 : 0 < p.rdramSize) (hs : p.rdramSize ≤ 0x03F00000)
    (hr : r ∈ regionTable p) (h1 : r.first ≤ pa.toNat) (h2 : pa.toNat ≤ r.last) : regionKind p pa = r.kind := by
  simp [regionKind, regionOf_eq h0 hs hr h1 h2]

/-- RAM is the physical addresses up to P_RDRAM_SIZE - 1. -/
theorem regionKind_ram_iff (p : Params) (pa : Word) : regionKind p pa = .ram ↔ pa.toNat ≤ p.rdramSize - 1 := by
  constructor
  · intro h
    unfold regionKind at h
    split at h
    · next r hr =>
      have hm := List.mem_of_find?_eq_some hr
      have hp := List.find?_some hr
      rw [regionTable_eq] at hm
      simp only [Bool.and_eq_true, decide_eq_true_eq] at hp
      rcases List.mem_cons.1 hm with rfl | hm
      · exact hp.2
      rcases List.mem_cons.1 hm with rfl | hm
      · simp at h
      have only : ∀ q ∈ (regionTable p).drop 2, q.kind ≠ .ram := by
        show ∀ q ∈ (regionTable Params.default).drop 2, q.kind ≠ .ram
        decide
      exact absurd h (only r hm)
    · contradiction
  · intro h
    unfold regionKind regionOf
    rw [regionTable_eq]
    simp [h]

/-- The aligned unit of an address in RAM begins in RAM. -/
theorem regionKind_alignDown_ram {p : Params} {pa : Word} (w : Width) (h : regionKind p pa = .ram) :
    regionKind p (alignDown pa w) = .ram := by
  rw [regionKind_ram_iff] at h ⊢
  rw [alignDown_toNat]
  exact Nat.le_trans (Nat.div_mul_le_self _ _) h

/-! ## Data accesses (20_memory.md R76 to R78) -/

/-- A load that completes translated its address, matched no watch, and changed only draws and the checker's sets. -/
theorem memRead_eq_ok {s t : State} {va : DWord} {w : Width} {v : DWord} {pa : Word} (h : memRead s va w = .ok (v, pa, t)) :
    (∃ cached, translate va .load s = .ok (pa, cached)) ∧ watchMatches pa false s = false ∧
    ∃ c d, t = { s with cache := c, draws := d } := by
  unfold memRead at h
  cases ht : translate va .load s with
  | error e => rw [ht] at h; exact absurd h (by simp [bind, Except.bind])
  | ok p =>
    obtain ⟨pa', cached⟩ := p
    rw [ht] at h
    simp only [bind, Except.bind] at h
    cases hw : watchCheck pa' false s with
    | error e => rw [hw] at h; exact absurd h (by simp)
    | ok u =>
      rw [hw] at h
      simp only at h
      cases hc : cacheCheck pa' .load cached s with
      | error e => rw [hc] at h; exact absurd h (by simp [orRefuse])
      | ok s1 =>
        rw [hc] at h
        simp only [orRefuse] at h
        cases hp : physRead s1 (alignDown pa' w) w with
        | error e => rw [hp] at h; exact absurd h (by simp)
        | ok q =>
          obtain ⟨v', s2⟩ := q
          rw [hp] at h
          simp only [pure, Except.pure, Except.ok.injEq, Prod.mk.injEq] at h
          obtain ⟨rfl, rfl, rfl⟩ := h
          obtain ⟨c, rfl⟩ := cacheCheck_eq_ok hc
          obtain ⟨d, rfl⟩ := physRead_eq_ok hp
          exact ⟨⟨cached, rfl⟩, watchCheck_eq_ok hw, c, d, rfl⟩

/-- A load raises in the state as it was: an exception of translation, or Watch. -/
theorem memRead_raise {s s' : State} {va : DWord} {w : Width} {e : Exc} (h : memRead s va w = .error (.raise e s')) :
    s' = s ∧ (e.badVAddr = some va ∨ e = .watch) := by
  unfold memRead at h
  cases ht : translate va .load s with
  | error e =>
    rw [ht] at h
    simp only [bind, Except.bind, Except.error.injEq] at h
    subst h
    exact ⟨(translate_raise ht).1, .inl (translate_raise ht).2⟩
  | ok p =>
    obtain ⟨pa', cached⟩ := p
    rw [ht] at h
    simp only [bind, Except.bind] at h
    cases hw : watchCheck pa' false s with
    | error e =>
      rw [hw] at h
      simp only [Except.error.injEq] at h
      subst h
      exact ⟨(watchCheck_raise hw).1, .inr (watchCheck_raise hw).2⟩
    | ok u =>
      rw [hw] at h
      simp only at h
      cases hc : cacheCheck pa' .load cached s with
      | error e => rw [hc] at h; exact absurd h (by simp [orRefuse])
      | ok s1 =>
        rw [hc] at h
        simp only [orRefuse] at h
        cases hp : physRead s1 (alignDown pa' w) w with
        | error e => rw [hp] at h; exact absurd h (by simp)
        | ok q => rw [hp] at h; exact absurd h (by simp [pure, Except.pure])

/-- A load that reaches RAM reads the aligned unit of its address. -/
theorem memRead_ram {s : State} {va : DWord} {pa : Word} (h : reachesRam s false va pa) (w : Width) :
    memRead s va w = .ok (s.mem.readBE (pa.toNat / w.bytes * w.bytes) w.bytes, pa, s) := by
  obtain ⟨⟨cached, ht⟩, hw, hc, hr⟩ := h
  have hk := regionKind_alignDown_ram w hr
  simp only [Bool.false_eq_true, if_false] at ht
  simp [memRead, ht, watchCheck_ok hw, cacheCheck_off hc, orRefuse, physRead, hk, bind, Except.bind, pure, Except.pure,
    alignDown_toNat]

/-- A store that completes translated its address, matched no watch, and changed memory inside its aligned unit only, the MI and VI
registers, the external mark, and the checker's sets. -/
theorem memWriteMasked_eq_ok {s t : State} {va : DWord} {w : Width} {v : DWord} {mask : BitVec 8}
    (h : memWriteMasked s va w v mask = .ok t) :
    ∃ pa cached, translate va .store s = .ok (pa, cached) ∧ watchMatches pa true s = false ∧
      t = { s with mem := t.mem, mi := t.mi, vi := t.vi, extActive := t.extActive, cache := t.cache } ∧
      (t.mem = s.mem ∨ t.mem = s.mem.writeBE (alignDown pa w).toNat mask w.bytes v) := by
  unfold memWriteMasked at h
  cases ht : translate va .store s with
  | error e => rw [ht] at h; exact absurd h (by simp [bind, Except.bind])
  | ok p =>
    obtain ⟨pa, cached⟩ := p
    rw [ht] at h
    simp only [bind, Except.bind] at h
    cases hw : watchCheck pa true s with
    | error e => rw [hw] at h; exact absurd h (by simp)
    | ok u =>
      rw [hw] at h
      simp only at h
      cases hc : cacheCheck pa .store cached s with
      | error e => rw [hc] at h; exact absurd h (by simp [orRefuse])
      | ok s1 =>
        rw [hc] at h
        simp only [orRefuse] at h
        cases hp : physWriteMasked s1 (alignDown pa w) w v mask with
        | error e => rw [hp] at h; exact absurd h (by simp)
        | ok s2 =>
          rw [hp] at h
          simp only [Except.ok.injEq] at h
          subst h
          obtain ⟨c, rfl⟩ := cacheCheck_eq_ok hc
          obtain ⟨h1, h2⟩ := physWriteMasked_eq_ok hp
          exact ⟨pa, cached, rfl, watchCheck_eq_ok hw, by rw [h1], h2⟩

/-- A store raises in the state as it was: an exception of translation, or Watch. -/
theorem memWriteMasked_raise {s s' : State} {va : DWord} {w : Width} {v : DWord} {mask : BitVec 8} {e : Exc}
    (h : memWriteMasked s va w v mask = .error (.raise e s')) : s' = s ∧ (e.badVAddr = some va ∨ e = .watch) := by
  unfold memWriteMasked at h
  cases ht : translate va .store s with
  | error e =>
    rw [ht] at h
    simp only [bind, Except.bind, Except.error.injEq] at h
    subst h
    exact ⟨(translate_raise ht).1, .inl (translate_raise ht).2⟩
  | ok p =>
    obtain ⟨pa, cached⟩ := p
    rw [ht] at h
    simp only [bind, Except.bind] at h
    cases hw : watchCheck pa true s with
    | error e =>
      rw [hw] at h
      simp only [Except.error.injEq] at h
      subst h
      exact ⟨(watchCheck_raise hw).1, .inr (watchCheck_raise hw).2⟩
    | ok u =>
      rw [hw] at h
      simp only at h
      cases hc : cacheCheck pa .store cached s with
      | error e => rw [hc] at h; exact absurd h (by simp [orRefuse])
      | ok s1 =>
        rw [hc] at h
        simp only [orRefuse] at h
        cases hp : physWriteMasked s1 (alignDown pa w) w v mask with
        | error e => rw [hp] at h; exact absurd h (by simp)
        | ok s2 => rw [hp] at h; exact absurd h (by simp)

/-- A whole store is a masked store of every byte. -/
theorem memWrite_eq (s : State) (va : DWord) (w : Width) (v : DWord) : memWrite s va w v = memWriteMasked s va w v fullMask := rfl

/-- A store that reaches RAM writes the selected bytes of the aligned unit of its address. -/
theorem memWriteMasked_ram {s : State} {va : DWord} {pa : Word} (h : reachesRam s true va pa) (w : Width) (v : DWord)
    (mask : BitVec 8) :
    memWriteMasked s va w v mask =
      .ok { s with mem := s.mem.writeBE (pa.toNat / w.bytes * w.bytes) mask w.bytes v } := by
  obtain ⟨⟨cached, ht⟩, hw, hc, hr⟩ := h
  have hk := regionKind_alignDown_ram w hr
  simp only [if_true] at ht
  simp [memWriteMasked, ht, watchCheck_ok hw, cacheCheck_off hc, orRefuse, physWriteMasked, hk, bind, Except.bind,
    alignDown_toNat]

end Sys2Proof.Machine
end

