-- ==== Sys2Proof/Laws/Families.lean ====
section
/-! SUPPORT. What the shared operations of the instruction families and of the scheduler can do, one lemma each: exception entry and
return, CP0 and TLB writes, the load and store shapes, the external agents and the device tick. -/

namespace Sys2Proof.Machine

/-! ## Exceptions (60_exceptions.md R286, 44_system.md R266) -/

/-- Exception entry changes CP0, the pc and the delay-slot state, and draws; nothing else. -/
theorem exceptionEntry_shape (e : Exc) (s : State) : ∃ c d v,
    exceptionEntry e s = { s with cp0 := c, pc := v, nextPc := v + 4, inDelaySlot := false, draws := d } ∧
    v = exceptionVector e.isRefill (statusEXL s) (statusBEV s) (addr64 s (currentMode s)) := by
  have h : ∃ d, (causeCE e s).2 = { s with draws := d } := by cases e <;> exact ⟨_, rfl⟩
  obtain ⟨d, hd⟩ := h
  refine ⟨(exceptionEntry e s).cp0, d, _, ?_, rfl⟩
  simp only [exceptionEntry, hd]

/-- The interrupt check takes the interrupt or does nothing. -/
theorem interruptCheck_cases (s : State) :
    (interruptDue s = true ∧ interruptCheck s = exceptionEntry .int s) ∨ (interruptDue s = false ∧ interruptCheck s = s) := by
  unfold interruptCheck
  cases interruptDue s
  · exact .inr ⟨rfl, rfl⟩
  · exact .inl ⟨rfl, rfl⟩

/-! ## CP0 and the TLB (44_system.md R256, R261 to R265) -/

/-- A CP0 write raises nothing, and changes CP0 and the pending timer interrupt only. -/
theorem cp0Write_eq_ok {s t : State} {n : RegIdx} {v : DWord} (h : cp0Write s n v = .ok t) :
    ∃ c ti, t = { s with cp0 := c, timer := ti } := by
  unfold cp0Write at h
  simp only at h
  repeat' split at h
  all_goals first
    | (cases h; exact ⟨_, _, rfl⟩)
    | simp at h

theorem cp0Write_not_raise {s s' : State} {n : RegIdx} {v : DWord} {e : Exc} : cp0Write s n v ≠ .error (.raise e s') := by
  intro h
  unfold cp0Write at h
  simp only at h
  repeat' split at h
  all_goals simp at h

/-- A CP0 read changes the draws only. -/
theorem cp0Read_snd (s : State) (n : RegIdx) : ∃ d, (cp0Read s n).2 = { s with draws := d } := by
  unfold cp0Read
  split <;> first
    | exact ⟨_, rfl⟩
    | (unfold randomValue; split <;> exact ⟨_, rfl⟩)

/-- A TLB write stores the entry the CP0 registers describe, when the index and the mask are legal. -/
theorem tlbWrite_eq_ok {s t : State} {i : Fin 32} (h : tlbWrite s i = .ok t) :
    legalMask (maskField s.cp0) = true ∧ t = { s with tlb := s.tlb.set i.val (entryOfCp0 s.cp0) i.isLt } := by
  unfold tlbWrite at h
  split at h
  · next hm => cases h; exact ⟨hm, rfl⟩
  · simp at h

/-- A TLB read writes the CP0 registers that describe the entry. -/
theorem tlbRead_eq_ok {s t : State} {i : Nat} (h : tlbRead s i = .ok t) :
    ∃ hi : i < 32, t = { s with cp0 := cp0OfEntry (s.tlb[i]'hi) s.cp0 } := by
  unfold tlbRead at h
  split at h
  · next hi => cases h; exact ⟨hi, rfl⟩
  · simp at h

/-- A TLB probe writes Index only. -/
theorem tlbProbe_eq_ok {s t : State} (h : tlbProbe s = .ok t) :
    ∃ x d, t = { s with cp0 := { s.cp0 with index := x }, draws := d } := by
  unfold tlbProbe at h
  split at h
  · cases h; exact ⟨_, _, rfl⟩
  · cases h; exact ⟨_, _, rfl⟩
  · simp at h

/-! ## Loads and stores (43_loadstore.md R213, R225, R229, R234, R236) -/

/-- A load ends with its register written from the value read, or with the exception of its access. -/
theorem loadWith_next {w : Width} {f : DWord → DWord} {rt base : RegIdx} {o : BitVec 16} {s t : State}
    (h : loadWith w f rt o base s = .next t) :
    (∃ v pa s', memRead s (effAddr s base o) w = .ok (v, pa, s') ∧ t = advance .next (writeReg s' rt (f v))) ∨
    (∃ e, memRead s (effAddr s base o) w = .error (.raise e s) ∧ t = takeException e s) := by
  unfold loadWith at h
  cases hm : memRead s (effAddr s base o) w with
  | ok p =>
    obtain ⟨v, pa, s'⟩ := p
    rw [hm] at h
    exact .inl ⟨v, pa, s', rfl, by simpa [bind, Except.bind, pure, Except.pure] using h.symm⟩
  | error st =>
    rw [hm] at h
    cases st with
    | raise e s' =>
      obtain rfl := (memRead_raise hm).1
      exact .inr ⟨e, rfl, by simpa [bind, Except.bind] using h.symm⟩
    | refuse r => exact absurd h (by simp [bind, Except.bind])

/-- A load-linked ends as a load does, with LLbit and LLAddr written. -/
theorem loadLinked_next {w : Width} {rt base : RegIdx} {o : BitVec 16} {s t : State} (h : loadLinked w rt o base s = .next t) :
    (∃ v pa s', memRead s (effAddr s base o) w = .ok (v, pa, s') ∧ t = advance .next (linked s' rt (w.sext v) pa)) ∨
    (∃ e, memRead s (effAddr s base o) w = .error (.raise e s) ∧ t = takeException e s) := by
  unfold loadLinked at h
  cases hm : memRead s (effAddr s base o) w with
  | ok p =>
    obtain ⟨v, pa, s'⟩ := p
    rw [hm] at h
    exact .inl ⟨v, pa, s', rfl, by simpa [bind, Except.bind, pure, Except.pure] using h.symm⟩
  | error st =>
    rw [hm] at h
    cases st with
    | raise e s' =>
      obtain rfl := (memRead_raise hm).1
      exact .inr ⟨e, rfl, by simpa [bind, Except.bind] using h.symm⟩
    | refuse r => exact absurd h (by simp [bind, Except.bind])

/-- The end of a store: the state after the masked write, or the exception of its access. -/
theorem store_next {w : Width} {va v : DWord} {mask : BitVec 8} {s t : State}
    (h : completeNext (memWriteMasked s va w v mask) = .next t) :
    (∃ s', memWriteMasked s va w v mask = .ok s' ∧ t = advance .next s') ∨
    (∃ e, memWriteMasked s va w v mask = .error (.raise e s) ∧ t = takeException e s) := by
  rcases completeNext_next h with ⟨s', h1, h2⟩ | ⟨e, s', h1, h2⟩
  · exact .inl ⟨s', h1, h2⟩
  · obtain rfl := (memWriteMasked_raise h1).1
    exact .inr ⟨e, h1, h2⟩

/-- A store-conditional: with LLbit the store and 1; without it the translation only and 0; or the exception of its access. -/
theorem storeConditional_next {w : Width} {rt base : RegIdx} {o : BitVec 16} {s t : State}
    (h : storeConditional w rt o base s = .next t) :
    (s.llbit = true ∧ ∃ s', memWrite s (effAddr s base o) w (w.trunc (readReg s rt)) = .ok s' ∧
      t = advance .next (writeReg s' rt 1)) ∨
    (s.llbit = false ∧ (∃ p, translate (effAddr s base o) .store s = .ok p) ∧ t = advance .next (writeReg s rt 0)) ∨
    (∃ e, t = takeException e s) := by
  unfold storeConditional at h
  cases hl : s.llbit with
  | true =>
    simp only [hl, if_true] at h
    cases hm : memWrite s (effAddr s base o) w (w.trunc (readReg s rt)) with
    | ok s' =>
      rw [hm] at h
      exact .inl ⟨rfl, s', rfl, by simpa [bind, Except.bind, pure, Except.pure] using h.symm⟩
    | error st =>
      rw [hm] at h
      cases st with
      | raise e s' =>
        rw [memWrite_eq] at hm
        obtain rfl := (memWriteMasked_raise hm).1
        exact .inr (.inr ⟨e, by simpa [bind, Except.bind] using h.symm⟩)
      | refuse r => exact absurd h (by simp [bind, Except.bind])
  | false =>
    simp only [hl, Bool.false_eq_true, if_false] at h
    cases ht : translate (effAddr s base o) .store s with
    | ok p =>
      rw [ht] at h
      exact .inr (.inl ⟨rfl, ⟨p, rfl⟩, by simpa [bind, Except.bind, pure, Except.pure] using h.symm⟩)
    | error st =>
      rw [ht] at h
      cases st with
      | raise e s' =>
        obtain rfl := (translate_raise ht).1
        exact .inr (.inr ⟨e, by simpa [bind, Except.bind] using h.symm⟩)
      | refuse r => exact absurd h (by simp [bind, Except.bind])

/-! ## The scheduler (20_memory.md R90, 60_exceptions.md R313, 70_reset_and_hazards.md R328) -/

/-- The stores of the external agents change memory and the checker's sets only. -/
theorem externalStores_eq_ok {l : List Host.Cell} {s t : State} (h : externalStores l s = .ok t) :
    ∃ m c, t = { s with mem := m, cache := c } := by
  induction l generalizing s with
  | nil => cases h; exact ⟨_, _, rfl⟩
  | cons c l ih =>
    obtain ⟨a, v⟩ := c
    simp only [externalStores] at h
    repeat' split at h
    all_goals first
      | (obtain ⟨m, c, rfl⟩ := ih h; exact ⟨m, c, rfl⟩)
      | simp at h

theorem orMark_eq_ok {s t : State} {r : Except Refusal State} (h : orMark s r = .ok t) : r = .ok t := by
  cases r with
  | ok u => simpa [orMark] using h
  | error e => simp [orMark] at h

/-- The external agents change memory, the MI interrupt bits, the checker's sets and the draws only. -/
theorem externalAgents_eq_ok {s t : State} (h : externalAgents s = .ok t) :
    ∃ m b c d, t = { s with mem := m, mi := { s.mi with intr := b }, cache := c, draws := d } := by
  unfold externalAgents at h
  split at h
  · obtain ⟨m, c, rfl⟩ := externalStores_eq_ok (orMark_eq_ok h)
    exact ⟨m, _, c, _, rfl⟩
  · cases h; exact ⟨_, _, _, _, rfl⟩

/-- A refused action of the external agents leaves the mark on the state before it. -/
theorem externalAgents_eq_error {s u : State} {r : Refusal} (h : externalAgents s = .error (r, u)) : u = s := by
  unfold externalAgents at h
  split at h
  · unfold orMark at h
    split at h
    · simp at h
    · simp only [Except.error.injEq, Prod.mk.injEq] at h; exact h.2.symm
  · simp at h

/-- The tick of the devices changes Count, the VI, the timer and the VI interrupt bit only. -/
theorem tickDevices_shape (n : Nat) (s : State) : ∃ x v ti b,
    tickDevices n s = { s with cp0 := { s.cp0 with count := x }, vi := v, timer := ti, mi := { s.mi with intr := b } } := by
  have hm : ∃ y, (viTick s.params n s.vi s.mi).2 = { s.mi with intr := y } := by
    simp only [viTick]
    split <;> exact ⟨_, rfl⟩
  obtain ⟨y, hy⟩ := hm
  refine ⟨(timerTick s.params n s.cp0 s.timer).1.count, (viTick s.params n s.vi s.mi).1, (timerTick s.params n s.cp0 s.timer).2, y, ?_⟩
  simp only [tickDevices, hy]
  rfl

/-- The device tick changes Count, the VI, the timer, the MI interrupt bits, and what the external agents change. -/
theorem devTick_eq_ok {n : Nat} {s t : State} (h : devTick n s = .ok t) :
    ∃ x v ti m b c d, t = { s with
      cp0 := { s.cp0 with count := x }, vi := v, timer := ti, mem := m, mi := { s.mi with intr := b }, cache := c,
      draws := d } := by
  unfold devTick at h
  split at h
  · obtain ⟨m, b, c, d, rfl⟩ := externalAgents_eq_ok h
    obtain ⟨x, v, ti, y, hy⟩ := tickDevices_shape n s
    exact ⟨x, v, ti, m, b, c, d, by rw [hy]⟩
  · cases h; exact ⟨_, _, _, _, _, _, _, rfl⟩

/-- With no external agent active the tick is the devices' alone. -/
theorem devTick_idle {n : Nat} {s : State} (hr : s.refused = none) (he : s.extActive = false) :
    devTick n s = .ok (tickDevices n s) := by
  have hx : ¬ (tickDevices n s).extActive = true := by rw [show (tickDevices n s).extActive = s.extActive from rfl, he]; simp
  unfold devTick externalAgents
  rw [if_pos hr, if_neg hx]

/-- The end of a frame ticks, checks interrupts and closes. -/
theorem endFrame_eq_ok {s t : State} (h : endFrame s = .ok t) :
    ∃ u, devTick (s.frame.fc - s.frame.ticked) s = .ok u ∧ t = closeFrame (interruptCheck u) := by
  unfold endFrame at h
  cases hd : devTick (s.frame.fc - s.frame.ticked) s with
  | ok u => rw [hd] at h; exact ⟨u, rfl, by simpa [bind, Except.bind, pure, Except.pure] using h.symm⟩
  | error e => rw [hd] at h; simp [bind, Except.bind] at h

/-- After a step the scheduler does nothing, or ticks and checks interrupts, as P_GRANULARITY says. -/
theorem stepTick_eq_ok {s t : State} (h : stepTick s = .ok t) :
    (s.params.granularity = .frame ∧ t = s) ∨
    (s.params.granularity = .step ∧ ∃ u, devTick s.params.cpi s = .ok u ∧
      t = interruptCheck { u with frame := { u.frame with ticked := u.frame.fc } }) := by
  unfold stepTick at h
  cases hg : s.params.granularity with
  | frame => rw [hg] at h; exact .inl ⟨rfl, by simpa using h.symm⟩
  | step =>
    rw [hg] at h
    cases hd : devTick s.params.cpi s with
    | ok u => rw [hd] at h; exact .inr ⟨rfl, u, rfl, by simpa [bind, Except.bind, pure, Except.pure] using h.symm⟩
    | error e => rw [hd] at h; simp [bind, Except.bind] at h

/-- The work after a step: the step is counted, ticked for, and the frame is ended when no further step is due. -/
theorem afterStep_eq_ok {s t : State} (h : afterStep s = .ok t) :
    ∃ u, stepTick (countStep s) = .ok u ∧ endIfDone u = .ok t := by
  unfold afterStep at h
  cases hd : stepTick (countStep s) with
  | ok u => rw [hd] at h; exact ⟨u, rfl, by simpa [bind, Except.bind] using h⟩
  | error e => rw [hd] at h; simp [bind, Except.bind] at h

/-- A step that completes: the external agents act, the instruction runs, the scheduler does its work after it. -/
theorem runStep_eq_ok {s t : State} (h : runStep s = .ok t) :
    ∃ u v, externalAgents s = .ok u ∧ instructionStep u = .next v ∧ afterStep v = .ok t := by
  unfold runStep at h
  cases he : externalAgents s with
  | error e => rw [he] at h; simp [bind, Except.bind] at h
  | ok u =>
    rw [he] at h
    simp only [bind, Except.bind] at h
    cases hi : instructionStep u with
    | next v => rw [hi] at h; exact ⟨u, v, rfl, hi, h⟩
    | fault f => exact nomatch f
    | refused r => rw [hi] at h; simp at h

/-- A step of the machine that answers a state ran the step that was due, or ended the frame. -/
theorem step_next {s t : State} (h : step s = .next t) :
    s.refused = none ∧ ((canStep (openFrame s) = true ∧ runStep (openFrame s) = .ok t) ∨
      (canStep (openFrame s) = false ∧ endFrame (openFrame s) = .ok t)) := by
  have h' : schedulerRun s = .ok t := by
    unfold step schedulerStep at h
    cases hr : schedulerRun s with
    | ok u => rw [hr] at h; simpa [settle] using h
    | error e => obtain ⟨r, u⟩ := e; rw [hr] at h; simp [settle, refuseWith] at h
  unfold schedulerRun at h'
  split at h'
  · simp at h'
  · next hr =>
    cases hc : canStep (openFrame s) with
    | true => rw [hc] at h'; exact ⟨hr, .inl ⟨rfl, by simpa using h'⟩⟩
    | false => rw [hc] at h'; exact ⟨hr, .inr ⟨rfl, by simpa using h'⟩⟩

end Sys2Proof.Machine
end

