-- ==== Sys2Proof/Laws/PerInstr.lean ====
section
/-! SUPPORT. The fixed bits of every instruction's word, as the opcode table gives them (30_encoding.md R104, R109 to R112): the
opcode fields and the must-be-zero fields of its row. -/

namespace Sys2Proof.Laws

open Sys2Proof.Decode

/-! ## The bits of a word under the bits of a mask, field by field -/

theorem and2 {k l : Nat} (a a' : BitVec k) (b b' : BitVec l) : (a ++ b) &&& (a' ++ b') = (a &&& a') ++ (b &&& b') :=
  BitVec.and_append

theorem and3 {k l m : Nat} (a a' : BitVec k) (b b' : BitVec l) (c c' : BitVec m) :
    (a ++ b ++ c) &&& (a' ++ b' ++ c') = (a &&& a') ++ (b &&& b') ++ (c &&& c') := by simp only [and2]

theorem and4 {k l m n : Nat} (a a' : BitVec k) (b b' : BitVec l) (c c' : BitVec m) (d d' : BitVec n) :
    (a ++ b ++ c ++ d) &&& (a' ++ b' ++ c' ++ d') = (a &&& a') ++ (b &&& b') ++ (c &&& c') ++ (d &&& d') := by
  simp only [and2]

theorem and5 {k l m n p : Nat} (a a' : BitVec k) (b b' : BitVec l) (c c' : BitVec m) (d d' : BitVec n) (e e' : BitVec p) :
    (a ++ b ++ c ++ d ++ e) &&& (a' ++ b' ++ c' ++ d' ++ e') =
      (a &&& a') ++ (b &&& b') ++ (c &&& c') ++ (d &&& d') ++ (e &&& e') := by simp only [and2]

theorem formatR_and (a a' : BitVec 6) (b b' c c' d d' : RegIdx) (e e' : BitVec 5) (f f' : BitVec 6) :
    formatR a b c d e f &&& formatR a' b' c' d' e' f' =
      formatR (a &&& a') (b &&& b') (c &&& c') (d &&& d') (e &&& e') (f &&& f') :=
  (and2 ..).trans (congrArg (· ++ (f &&& f')) (and5 ..))

theorem formatI_and (a a' : BitVec 6) (b b' c c' : RegIdx) (d d' : BitVec 16) :
    formatI a b c d &&& formatI a' b' c' d' = formatI (a &&& a') (b &&& b') (c &&& c') (d &&& d') := and4 ..

theorem formatJ_and (a a' : BitVec 6) (b b' : BitVec 26) : formatJ a b &&& formatJ a' b' = formatJ (a &&& a') (b &&& b') :=
  and2 ..

theorem formatCode_and (a a' : BitVec 20) (b b' : BitVec 6) (z : BitVec 6) :
    formatCode a b &&& (z ++ a' ++ b') = formatCode (a &&& a') (b &&& b') := by
  have h := and3 (0 : BitVec 6) z a a' b b'
  rw [show (0 : BitVec 6) &&& z = 0 from BitVec.zero_and] at h
  exact h

theorem formatTrap_and (b b' c c' : RegIdx) (d d' : BitVec 10) (e e' : BitVec 6) (z : BitVec 6) :
    formatTrap b c d e &&& (z ++ b' ++ c' ++ d' ++ e') = formatTrap (b &&& b') (c &&& c') (d &&& d') (e &&& e') := by
  have h := and5 (0 : BitVec 6) z b b' c c' d d' e e'
  rw [show (0 : BitVec 6) &&& z = 0 from BitVec.zero_and] at h
  exact h

theorem formatMov_and (s : BitVec 5) (rt rd : RegIdx) : formatMov s rt rd &&& 0xFFE007FF = formatMov s 0 0 := by
  have h := and5 (16 : BitVec 6) 0x3F s 0x1F rt 0 rd 0 (0 : BitVec 11) 0x7FF
  rw [show rt &&& 0 = 0 from BitVec.and_zero, show rd &&& 0 = 0 from BitVec.and_zero,
    show s &&& 0x1F = s from BitVec.and_allOnes] at h
  exact h

/-- A field the mask does not select. -/
theorem and0 {n : Nat} (x : BitVec n) : x &&& 0 = 0 := BitVec.and_zero

/-! ## The fixed bits -/

/-- Under `mask` the word of an instruction is `value`. -/
def fixedBits (i : Instr) (mask value : Word) : Prop := encode i &&& mask = value

/-- The word of an instruction has the fixed bits of its row of the opcode table. -/
def EncodingFixed.Statement (i : Instr) : Prop :=
  match i with
  | .sll .. => fixedBits i 0xFFE0003F 0x00000000
  | .srl .. => fixedBits i 0xFFE0003F 0x00000002
  | .sra .. => fixedBits i 0xFFE0003F 0x00000003
  | .sllv .. => fixedBits i 0xFC0007FF 0x00000004
  | .srlv .. => fixedBits i 0xFC0007FF 0x00000006
  | .srav .. => fixedBits i 0xFC0007FF 0x00000007
  | .jr .. => fixedBits i 0xFC1FFFFF 0x00000008
  | .jalr .. => fixedBits i 0xFC1F07FF 0x00000009
  | .syscall .. => fixedBits i 0xFC00003F 0x0000000C
  | .brk .. => fixedBits i 0xFC00003F 0x0000000D
  | .sync => fixedBits i 0xFFFFFFFF 0x0000000F
  | .mfhi .. => fixedBits i 0xFFFF07FF 0x00000010
  | .mthi .. => fixedBits i 0xFC1FFFFF 0x00000011
  | .mflo .. => fixedBits i 0xFFFF07FF 0x00000012
  | .mtlo .. => fixedBits i 0xFC1FFFFF 0x00000013
  | .dsllv .. => fixedBits i 0xFC0007FF 0x00000014
  | .dsrlv .. => fixedBits i 0xFC0007FF 0x00000016
  | .dsrav .. => fixedBits i 0xFC0007FF 0x00000017
  | .mult .. => fixedBits i 0xFC00FFFF 0x00000018
  | .multu .. => fixedBits i 0xFC00FFFF 0x00000019
  | .div .. => fixedBits i 0xFC00FFFF 0x0000001A
  | .divu .. => fixedBits i 0xFC00FFFF 0x0000001B
  | .dmult .. => fixedBits i 0xFC00FFFF 0x0000001C
  | .dmultu .. => fixedBits i 0xFC00FFFF 0x0000001D
  | .ddiv .. => fixedBits i 0xFC00FFFF 0x0000001E
  | .ddivu .. => fixedBits i 0xFC00FFFF 0x0000001F
  | .add .. => fixedBits i 0xFC0007FF 0x00000020
  | .addu .. => fixedBits i 0xFC0007FF 0x00000021
  | .sub .. => fixedBits i 0xFC0007FF 0x00000022
  | .subu .. => fixedBits i 0xFC0007FF 0x00000023
  | .and .. => fixedBits i 0xFC0007FF 0x00000024
  | .or .. => fixedBits i 0xFC0007FF 0x00000025
  | .xor .. => fixedBits i 0xFC0007FF 0x00000026
  | .nor .. => fixedBits i 0xFC0007FF 0x00000027
  | .slt .. => fixedBits i 0xFC0007FF 0x0000002A
  | .sltu .. => fixedBits i 0xFC0007FF 0x0000002B
  | .dadd .. => fixedBits i 0xFC0007FF 0x0000002C
  | .daddu .. => fixedBits i 0xFC0007FF 0x0000002D
  | .dsub .. => fixedBits i 0xFC0007FF 0x0000002E
  | .dsubu .. => fixedBits i 0xFC0007FF 0x0000002F
  | .tge .. => fixedBits i 0xFC00003F 0x00000030
  | .tgeu .. => fixedBits i 0xFC00003F 0x00000031
  | .tlt .. => fixedBits i 0xFC00003F 0x00000032
  | .tltu .. => fixedBits i 0xFC00003F 0x00000033
  | .teq .. => fixedBits i 0xFC00003F 0x00000034
  | .tne .. => fixedBits i 0xFC00003F 0x00000036
  | .dsll .. => fixedBits i 0xFFE0003F 0x00000038
  | .dsrl .. => fixedBits i 0xFFE0003F 0x0000003A
  | .dsra .. => fixedBits i 0xFFE0003F 0x0000003B
  | .dsll32 .. => fixedBits i 0xFFE0003F 0x0000003C
  | .dsrl32 .. => fixedBits i 0xFFE0003F 0x0000003E
  | .dsra32 .. => fixedBits i 0xFFE0003F 0x0000003F
  | .bltz .. => fixedBits i 0xFC1F0000 0x04000000
  | .bgez .. => fixedBits i 0xFC1F0000 0x04010000
  | .bltzl .. => fixedBits i 0xFC1F0000 0x04020000
  | .bgezl .. => fixedBits i 0xFC1F0000 0x04030000
  | .tgei .. => fixedBits i 0xFC1F0000 0x04080000
  | .tgeiu .. => fixedBits i 0xFC1F0000 0x04090000
  | .tlti .. => fixedBits i 0xFC1F0000 0x040A0000
  | .tltiu .. => fixedBits i 0xFC1F0000 0x040B0000
  | .teqi .. => fixedBits i 0xFC1F0000 0x040C0000
  | .tnei .. => fixedBits i 0xFC1F0000 0x040E0000
  | .bltzal .. => fixedBits i 0xFC1F0000 0x04100000
  | .bgezal .. => fixedBits i 0xFC1F0000 0x04110000
  | .bltzall .. => fixedBits i 0xFC1F0000 0x04120000
  | .bgezall .. => fixedBits i 0xFC1F0000 0x04130000
  | .j .. => fixedBits i 0xFC000000 0x08000000
  | .jal .. => fixedBits i 0xFC000000 0x0C000000
  | .beq .. => fixedBits i 0xFC000000 0x10000000
  | .bne .. => fixedBits i 0xFC000000 0x14000000
  | .blez .. => fixedBits i 0xFC1F0000 0x18000000
  | .bgtz .. => fixedBits i 0xFC1F0000 0x1C000000
  | .addi .. => fixedBits i 0xFC000000 0x20000000
  | .addiu .. => fixedBits i 0xFC000000 0x24000000
  | .slti .. => fixedBits i 0xFC000000 0x28000000
  | .sltiu .. => fixedBits i 0xFC000000 0x2C000000
  | .andi .. => fixedBits i 0xFC000000 0x30000000
  | .ori .. => fixedBits i 0xFC000000 0x34000000
  | .xori .. => fixedBits i 0xFC000000 0x38000000
  | .lui .. => fixedBits i 0xFFE00000 0x3C000000
  | .mfc0 .. => fixedBits i 0xFFE007FF 0x40000000
  | .dmfc0 .. => fixedBits i 0xFFE007FF 0x40200000
  | .mtc0 .. => fixedBits i 0xFFE007FF 0x40800000
  | .dmtc0 .. => fixedBits i 0xFFE007FF 0x40A00000
  | .tlbr => fixedBits i 0xFFFFFFFF 0x42000001
  | .tlbwi => fixedBits i 0xFFFFFFFF 0x42000002
  | .tlbwr => fixedBits i 0xFFFFFFFF 0x42000006
  | .tlbp => fixedBits i 0xFFFFFFFF 0x42000008
  | .eret => fixedBits i 0xFFFFFFFF 0x42000018
  | .cop1 .. => fixedBits i 0xFC000000 0x44000000
  | .cop2 .. => fixedBits i 0xFC000000 0x48000000
  | .beql .. => fixedBits i 0xFC000000 0x50000000
  | .bnel .. => fixedBits i 0xFC000000 0x54000000
  | .blezl .. => fixedBits i 0xFC1F0000 0x58000000
  | .bgtzl .. => fixedBits i 0xFC1F0000 0x5C000000
  | .daddi .. => fixedBits i 0xFC000000 0x60000000
  | .daddiu .. => fixedBits i 0xFC000000 0x64000000
  | .ldl .. => fixedBits i 0xFC000000 0x68000000
  | .ldr .. => fixedBits i 0xFC000000 0x6C000000
  | .lb .. => fixedBits i 0xFC000000 0x80000000
  | .lh .. => fixedBits i 0xFC000000 0x84000000
  | .lwl .. => fixedBits i 0xFC000000 0x88000000
  | .lw .. => fixedBits i 0xFC000000 0x8C000000
  | .lbu .. => fixedBits i 0xFC000000 0x90000000
  | .lhu .. => fixedBits i 0xFC000000 0x94000000
  | .lwr .. => fixedBits i 0xFC000000 0x98000000
  | .lwu .. => fixedBits i 0xFC000000 0x9C000000
  | .sb .. => fixedBits i 0xFC000000 0xA0000000
  | .sh .. => fixedBits i 0xFC000000 0xA4000000
  | .swl .. => fixedBits i 0xFC000000 0xA8000000
  | .sw .. => fixedBits i 0xFC000000 0xAC000000
  | .sdl .. => fixedBits i 0xFC000000 0xB0000000
  | .sdr .. => fixedBits i 0xFC000000 0xB4000000
  | .swr .. => fixedBits i 0xFC000000 0xB8000000
  | .ll .. => fixedBits i 0xFC000000 0xC0000000
  | .lld .. => fixedBits i 0xFC000000 0xD0000000
  | .ld .. => fixedBits i 0xFC000000 0xDC000000
  | .sc .. => fixedBits i 0xFC000000 0xE0000000
  | .scd .. => fixedBits i 0xFC000000 0xF0000000
  | .sd .. => fixedBits i 0xFC000000 0xFC000000
  | .cache .. => fixedBits i 0xFC000000 0xBC000000
  | .lwc1 .. => fixedBits i 0xFC000000 0xC4000000
  | .lwc2 .. => fixedBits i 0xFC000000 0xC8000000
  | .ldc1 .. => fixedBits i 0xFC000000 0xD4000000
  | .ldc2 .. => fixedBits i 0xFC000000 0xD8000000
  | .swc1 .. => fixedBits i 0xFC000000 0xE4000000
  | .swc2 .. => fixedBits i 0xFC000000 0xE8000000
  | .sdc1 .. => fixedBits i 0xFC000000 0xF4000000
  | .sdc2 .. => fixedBits i 0xFC000000 0xF8000000

/-! ## One law per constructor -/

theorem EncodingFixed.sll (rd rt : RegIdx) (sa : BitVec 5) : EncodingFixed.Statement (.sll rd rt sa) := by
  exact (formatR_and 0 0x3F 0 0x1F rt 0x0 rd 0x0 sa 0x0 0 0x3F).trans (by rw [and0 rt, and0 rd, and0 sa]; decide)

theorem EncodingFixed.srl (rd rt : RegIdx) (sa : BitVec 5) : EncodingFixed.Statement (.srl rd rt sa) := by
  exact (formatR_and 0 0x3F 0 0x1F rt 0x0 rd 0x0 sa 0x0 2 0x3F).trans (by rw [and0 rt, and0 rd, and0 sa]; decide)

theorem EncodingFixed.sra (rd rt : RegIdx) (sa : BitVec 5) : EncodingFixed.Statement (.sra rd rt sa) := by
  exact (formatR_and 0 0x3F 0 0x1F rt 0x0 rd 0x0 sa 0x0 3 0x3F).trans (by rw [and0 rt, and0 rd, and0 sa]; decide)

theorem EncodingFixed.sllv (rd rt rs : RegIdx) : EncodingFixed.Statement (.sllv rd rt rs) := by
  exact (formatR_and 0 0x3F rs 0x0 rt 0x0 rd 0x0 0 0x1F 4 0x3F).trans (by rw [and0 rs, and0 rt, and0 rd]; decide)

theorem EncodingFixed.srlv (rd rt rs : RegIdx) : EncodingFixed.Statement (.srlv rd rt rs) := by
  exact (formatR_and 0 0x3F rs 0x0 rt 0x0 rd 0x0 0 0x1F 6 0x3F).trans (by rw [and0 rs, and0 rt, and0 rd]; decide)

theorem EncodingFixed.srav (rd rt rs : RegIdx) : EncodingFixed.Statement (.srav rd rt rs) := by
  exact (formatR_and 0 0x3F rs 0x0 rt 0x0 rd 0x0 0 0x1F 7 0x3F).trans (by rw [and0 rs, and0 rt, and0 rd]; decide)

theorem EncodingFixed.jr (rs : RegIdx) : EncodingFixed.Statement (.jr rs) := by
  exact (formatR_and 0 0x3F rs 0x0 0 0x1F 0 0x1F 0 0x1F 8 0x3F).trans (by rw [and0 rs]; decide)

theorem EncodingFixed.jalr (rd rs : RegIdx) : EncodingFixed.Statement (.jalr rd rs) := by
  exact (formatR_and 0 0x3F rs 0x0 0 0x1F rd 0x0 0 0x1F 9 0x3F).trans (by rw [and0 rs, and0 rd]; decide)

theorem EncodingFixed.syscall (code : BitVec 20) : EncodingFixed.Statement (.syscall code) := by
  exact (formatCode_and code 0x0 12 0x3F 0x3F).trans (by rw [and0 code]; decide)

theorem EncodingFixed.brk (code : BitVec 20) : EncodingFixed.Statement (.brk code) := by
  exact (formatCode_and code 0x0 13 0x3F 0x3F).trans (by rw [and0 code]; decide)

theorem EncodingFixed.sync : EncodingFixed.Statement (.sync) := by
  exact (by decide : encode .sync &&& 0xFFFFFFFF = 0x0000000F)

theorem EncodingFixed.mfhi (rd : RegIdx) : EncodingFixed.Statement (.mfhi rd) := by
  exact (formatR_and 0 0x3F 0 0x1F 0 0x1F rd 0x0 0 0x1F 16 0x3F).trans (by rw [and0 rd]; decide)

theorem EncodingFixed.mthi (rs : RegIdx) : EncodingFixed.Statement (.mthi rs) := by
  exact (formatR_and 0 0x3F rs 0x0 0 0x1F 0 0x1F 0 0x1F 17 0x3F).trans (by rw [and0 rs]; decide)

theorem EncodingFixed.mflo (rd : RegIdx) : EncodingFixed.Statement (.mflo rd) := by
  exact (formatR_and 0 0x3F 0 0x1F 0 0x1F rd 0x0 0 0x1F 18 0x3F).trans (by rw [and0 rd]; decide)

theorem EncodingFixed.mtlo (rs : RegIdx) : EncodingFixed.Statement (.mtlo rs) := by
  exact (formatR_and 0 0x3F rs 0x0 0 0x1F 0 0x1F 0 0x1F 19 0x3F).trans (by rw [and0 rs]; decide)

theorem EncodingFixed.dsllv (rd rt rs : RegIdx) : EncodingFixed.Statement (.dsllv rd rt rs) := by
  exact (formatR_and 0 0x3F rs 0x0 rt 0x0 rd 0x0 0 0x1F 20 0x3F).trans (by rw [and0 rs, and0 rt, and0 rd]; decide)

theorem EncodingFixed.dsrlv (rd rt rs : RegIdx) : EncodingFixed.Statement (.dsrlv rd rt rs) := by
  exact (formatR_and 0 0x3F rs 0x0 rt 0x0 rd 0x0 0 0x1F 22 0x3F).trans (by rw [and0 rs, and0 rt, and0 rd]; decide)

theorem EncodingFixed.dsrav (rd rt rs : RegIdx) : EncodingFixed.Statement (.dsrav rd rt rs) := by
  exact (formatR_and 0 0x3F rs 0x0 rt 0x0 rd 0x0 0 0x1F 23 0x3F).trans (by rw [and0 rs, and0 rt, and0 rd]; decide)

theorem EncodingFixed.mult (rs rt : RegIdx) : EncodingFixed.Statement (.mult rs rt) := by
  exact (formatR_and 0 0x3F rs 0x0 rt 0x0 0 0x1F 0 0x1F 24 0x3F).trans (by rw [and0 rs, and0 rt]; decide)

theorem EncodingFixed.multu (rs rt : RegIdx) : EncodingFixed.Statement (.multu rs rt) := by
  exact (formatR_and 0 0x3F rs 0x0 rt 0x0 0 0x1F 0 0x1F 25 0x3F).trans (by rw [and0 rs, and0 rt]; decide)

theorem EncodingFixed.div (rs rt : RegIdx) : EncodingFixed.Statement (.div rs rt) := by
  exact (formatR_and 0 0x3F rs 0x0 rt 0x0 0 0x1F 0 0x1F 26 0x3F).trans (by rw [and0 rs, and0 rt]; decide)

theorem EncodingFixed.divu (rs rt : RegIdx) : EncodingFixed.Statement (.divu rs rt) := by
  exact (formatR_and 0 0x3F rs 0x0 rt 0x0 0 0x1F 0 0x1F 27 0x3F).trans (by rw [and0 rs, and0 rt]; decide)

theorem EncodingFixed.dmult (rs rt : RegIdx) : EncodingFixed.Statement (.dmult rs rt) := by
  exact (formatR_and 0 0x3F rs 0x0 rt 0x0 0 0x1F 0 0x1F 28 0x3F).trans (by rw [and0 rs, and0 rt]; decide)

theorem EncodingFixed.dmultu (rs rt : RegIdx) : EncodingFixed.Statement (.dmultu rs rt) := by
  exact (formatR_and 0 0x3F rs 0x0 rt 0x0 0 0x1F 0 0x1F 29 0x3F).trans (by rw [and0 rs, and0 rt]; decide)

theorem EncodingFixed.ddiv (rs rt : RegIdx) : EncodingFixed.Statement (.ddiv rs rt) := by
  exact (formatR_and 0 0x3F rs 0x0 rt 0x0 0 0x1F 0 0x1F 30 0x3F).trans (by rw [and0 rs, and0 rt]; decide)

theorem EncodingFixed.ddivu (rs rt : RegIdx) : EncodingFixed.Statement (.ddivu rs rt) := by
  exact (formatR_and 0 0x3F rs 0x0 rt 0x0 0 0x1F 0 0x1F 31 0x3F).trans (by rw [and0 rs, and0 rt]; decide)

theorem EncodingFixed.add (rd rs rt : RegIdx) : EncodingFixed.Statement (.add rd rs rt) := by
  exact (formatR_and 0 0x3F rs 0x0 rt 0x0 rd 0x0 0 0x1F 32 0x3F).trans (by rw [and0 rs, and0 rt, and0 rd]; decide)

theorem EncodingFixed.addu (rd rs rt : RegIdx) : EncodingFixed.Statement (.addu rd rs rt) := by
  exact (formatR_and 0 0x3F rs 0x0 rt 0x0 rd 0x0 0 0x1F 33 0x3F).trans (by rw [and0 rs, and0 rt, and0 rd]; decide)

theorem EncodingFixed.sub (rd rs rt : RegIdx) : EncodingFixed.Statement (.sub rd rs rt) := by
  exact (formatR_and 0 0x3F rs 0x0 rt 0x0 rd 0x0 0 0x1F 34 0x3F).trans (by rw [and0 rs, and0 rt, and0 rd]; decide)

theorem EncodingFixed.subu (rd rs rt : RegIdx) : EncodingFixed.Statement (.subu rd rs rt) := by
  exact (formatR_and 0 0x3F rs 0x0 rt 0x0 rd 0x0 0 0x1F 35 0x3F).trans (by rw [and0 rs, and0 rt, and0 rd]; decide)

theorem EncodingFixed.and (rd rs rt : RegIdx) : EncodingFixed.Statement (.and rd rs rt) := by
  exact (formatR_and 0 0x3F rs 0x0 rt 0x0 rd 0x0 0 0x1F 36 0x3F).trans (by rw [and0 rs, and0 rt, and0 rd]; decide)

theorem EncodingFixed.or (rd rs rt : RegIdx) : EncodingFixed.Statement (.or rd rs rt) := by
  exact (formatR_and 0 0x3F rs 0x0 rt 0x0 rd 0x0 0 0x1F 37 0x3F).trans (by rw [and0 rs, and0 rt, and0 rd]; decide)

theorem EncodingFixed.xor (rd rs rt : RegIdx) : EncodingFixed.Statement (.xor rd rs rt) := by
  exact (formatR_and 0 0x3F rs 0x0 rt 0x0 rd 0x0 0 0x1F 38 0x3F).trans (by rw [and0 rs, and0 rt, and0 rd]; decide)

theorem EncodingFixed.nor (rd rs rt : RegIdx) : EncodingFixed.Statement (.nor rd rs rt) := by
  exact (formatR_and 0 0x3F rs 0x0 rt 0x0 rd 0x0 0 0x1F 39 0x3F).trans (by rw [and0 rs, and0 rt, and0 rd]; decide)

theorem EncodingFixed.slt (rd rs rt : RegIdx) : EncodingFixed.Statement (.slt rd rs rt) := by
  exact (formatR_and 0 0x3F rs 0x0 rt 0x0 rd 0x0 0 0x1F 42 0x3F).trans (by rw [and0 rs, and0 rt, and0 rd]; decide)

theorem EncodingFixed.sltu (rd rs rt : RegIdx) : EncodingFixed.Statement (.sltu rd rs rt) := by
  exact (formatR_and 0 0x3F rs 0x0 rt 0x0 rd 0x0 0 0x1F 43 0x3F).trans (by rw [and0 rs, and0 rt, and0 rd]; decide)

theorem EncodingFixed.dadd (rd rs rt : RegIdx) : EncodingFixed.Statement (.dadd rd rs rt) := by
  exact (formatR_and 0 0x3F rs 0x0 rt 0x0 rd 0x0 0 0x1F 44 0x3F).trans (by rw [and0 rs, and0 rt, and0 rd]; decide)

theorem EncodingFixed.daddu (rd rs rt : RegIdx) : EncodingFixed.Statement (.daddu rd rs rt) := by
  exact (formatR_and 0 0x3F rs 0x0 rt 0x0 rd 0x0 0 0x1F 45 0x3F).trans (by rw [and0 rs, and0 rt, and0 rd]; decide)

theorem EncodingFixed.dsub (rd rs rt : RegIdx) : EncodingFixed.Statement (.dsub rd rs rt) := by
  exact (formatR_and 0 0x3F rs 0x0 rt 0x0 rd 0x0 0 0x1F 46 0x3F).trans (by rw [and0 rs, and0 rt, and0 rd]; decide)

theorem EncodingFixed.dsubu (rd rs rt : RegIdx) : EncodingFixed.Statement (.dsubu rd rs rt) := by
  exact (formatR_and 0 0x3F rs 0x0 rt 0x0 rd 0x0 0 0x1F 47 0x3F).trans (by rw [and0 rs, and0 rt, and0 rd]; decide)

theorem EncodingFixed.tge (rs rt : RegIdx) (tcode : BitVec 10) : EncodingFixed.Statement (.tge rs rt tcode) := by
  exact (formatTrap_and rs 0x0 rt 0x0 tcode 0x0 48 0x3F 0x3F).trans (by rw [and0 rs, and0 rt, and0 tcode]; decide)

theorem EncodingFixed.tgeu (rs rt : RegIdx) (tcode : BitVec 10) : EncodingFixed.Statement (.tgeu rs rt tcode) := by
  exact (formatTrap_and rs 0x0 rt 0x0 tcode 0x0 49 0x3F 0x3F).trans (by rw [and0 rs, and0 rt, and0 tcode]; decide)

theorem EncodingFixed.tlt (rs rt : RegIdx) (tcode : BitVec 10) : EncodingFixed.Statement (.tlt rs rt tcode) := by
  exact (formatTrap_and rs 0x0 rt 0x0 tcode 0x0 50 0x3F 0x3F).trans (by rw [and0 rs, and0 rt, and0 tcode]; decide)

theorem EncodingFixed.tltu (rs rt : RegIdx) (tcode : BitVec 10) : EncodingFixed.Statement (.tltu rs rt tcode) := by
  exact (formatTrap_and rs 0x0 rt 0x0 tcode 0x0 51 0x3F 0x3F).trans (by rw [and0 rs, and0 rt, and0 tcode]; decide)

theorem EncodingFixed.teq (rs rt : RegIdx) (tcode : BitVec 10) : EncodingFixed.Statement (.teq rs rt tcode) := by
  exact (formatTrap_and rs 0x0 rt 0x0 tcode 0x0 52 0x3F 0x3F).trans (by rw [and0 rs, and0 rt, and0 tcode]; decide)

theorem EncodingFixed.tne (rs rt : RegIdx) (tcode : BitVec 10) : EncodingFixed.Statement (.tne rs rt tcode) := by
  exact (formatTrap_and rs 0x0 rt 0x0 tcode 0x0 54 0x3F 0x3F).trans (by rw [and0 rs, and0 rt, and0 tcode]; decide)

theorem EncodingFixed.dsll (rd rt : RegIdx) (sa : BitVec 5) : EncodingFixed.Statement (.dsll rd rt sa) := by
  exact (formatR_and 0 0x3F 0 0x1F rt 0x0 rd 0x0 sa 0x0 56 0x3F).trans (by rw [and0 rt, and0 rd, and0 sa]; decide)

theorem EncodingFixed.dsrl (rd rt : RegIdx) (sa : BitVec 5) : EncodingFixed.Statement (.dsrl rd rt sa) := by
  exact (formatR_and 0 0x3F 0 0x1F rt 0x0 rd 0x0 sa 0x0 58 0x3F).trans (by rw [and0 rt, and0 rd, and0 sa]; decide)

theorem EncodingFixed.dsra (rd rt : RegIdx) (sa : BitVec 5) : EncodingFixed.Statement (.dsra rd rt sa) := by
  exact (formatR_and 0 0x3F 0 0x1F rt 0x0 rd 0x0 sa 0x0 59 0x3F).trans (by rw [and0 rt, and0 rd, and0 sa]; decide)

theorem EncodingFixed.dsll32 (rd rt : RegIdx) (sa : BitVec 5) : EncodingFixed.Statement (.dsll32 rd rt sa) := by
  exact (formatR_and 0 0x3F 0 0x1F rt 0x0 rd 0x0 sa 0x0 60 0x3F).trans (by rw [and0 rt, and0 rd, and0 sa]; decide)

theorem EncodingFixed.dsrl32 (rd rt : RegIdx) (sa : BitVec 5) : EncodingFixed.Statement (.dsrl32 rd rt sa) := by
  exact (formatR_and 0 0x3F 0 0x1F rt 0x0 rd 0x0 sa 0x0 62 0x3F).trans (by rw [and0 rt, and0 rd, and0 sa]; decide)

theorem EncodingFixed.dsra32 (rd rt : RegIdx) (sa : BitVec 5) : EncodingFixed.Statement (.dsra32 rd rt sa) := by
  exact (formatR_and 0 0x3F 0 0x1F rt 0x0 rd 0x0 sa 0x0 63 0x3F).trans (by rw [and0 rt, and0 rd, and0 sa]; decide)

theorem EncodingFixed.bltz (rs : RegIdx) (offset : BitVec 16) : EncodingFixed.Statement (.bltz rs offset) := by
  exact (formatI_and 1 0x3F rs 0x0 0 0x1F offset 0x0).trans (by rw [and0 rs, and0 offset]; decide)

theorem EncodingFixed.bgez (rs : RegIdx) (offset : BitVec 16) : EncodingFixed.Statement (.bgez rs offset) := by
  exact (formatI_and 1 0x3F rs 0x0 1 0x1F offset 0x0).trans (by rw [and0 rs, and0 offset]; decide)

theorem EncodingFixed.bltzl (rs : RegIdx) (offset : BitVec 16) : EncodingFixed.Statement (.bltzl rs offset) := by
  exact (formatI_and 1 0x3F rs 0x0 2 0x1F offset 0x0).trans (by rw [and0 rs, and0 offset]; decide)

theorem EncodingFixed.bgezl (rs : RegIdx) (offset : BitVec 16) : EncodingFixed.Statement (.bgezl rs offset) := by
  exact (formatI_and 1 0x3F rs 0x0 3 0x1F offset 0x0).trans (by rw [and0 rs, and0 offset]; decide)

theorem EncodingFixed.tgei (rs : RegIdx) (imm : BitVec 16) : EncodingFixed.Statement (.tgei rs imm) := by
  exact (formatI_and 1 0x3F rs 0x0 8 0x1F imm 0x0).trans (by rw [and0 rs, and0 imm]; decide)

theorem EncodingFixed.tgeiu (rs : RegIdx) (imm : BitVec 16) : EncodingFixed.Statement (.tgeiu rs imm) := by
  exact (formatI_and 1 0x3F rs 0x0 9 0x1F imm 0x0).trans (by rw [and0 rs, and0 imm]; decide)

theorem EncodingFixed.tlti (rs : RegIdx) (imm : BitVec 16) : EncodingFixed.Statement (.tlti rs imm) := by
  exact (formatI_and 1 0x3F rs 0x0 10 0x1F imm 0x0).trans (by rw [and0 rs, and0 imm]; decide)

theorem EncodingFixed.tltiu (rs : RegIdx) (imm : BitVec 16) : EncodingFixed.Statement (.tltiu rs imm) := by
  exact (formatI_and 1 0x3F rs 0x0 11 0x1F imm 0x0).trans (by rw [and0 rs, and0 imm]; decide)

theorem EncodingFixed.teqi (rs : RegIdx) (imm : BitVec 16) : EncodingFixed.Statement (.teqi rs imm) := by
  exact (formatI_and 1 0x3F rs 0x0 12 0x1F imm 0x0).trans (by rw [and0 rs, and0 imm]; decide)

theorem EncodingFixed.tnei (rs : RegIdx) (imm : BitVec 16) : EncodingFixed.Statement (.tnei rs imm) := by
  exact (formatI_and 1 0x3F rs 0x0 14 0x1F imm 0x0).trans (by rw [and0 rs, and0 imm]; decide)

theorem EncodingFixed.bltzal (rs : RegIdx) (offset : BitVec 16) : EncodingFixed.Statement (.bltzal rs offset) := by
  exact (formatI_and 1 0x3F rs 0x0 16 0x1F offset 0x0).trans (by rw [and0 rs, and0 offset]; decide)

theorem EncodingFixed.bgezal (rs : RegIdx) (offset : BitVec 16) : EncodingFixed.Statement (.bgezal rs offset) := by
  exact (formatI_and 1 0x3F rs 0x0 17 0x1F offset 0x0).trans (by rw [and0 rs, and0 offset]; decide)

theorem EncodingFixed.bltzall (rs : RegIdx) (offset : BitVec 16) : EncodingFixed.Statement (.bltzall rs offset) := by
  exact (formatI_and 1 0x3F rs 0x0 18 0x1F offset 0x0).trans (by rw [and0 rs, and0 offset]; decide)

theorem EncodingFixed.bgezall (rs : RegIdx) (offset : BitVec 16) : EncodingFixed.Statement (.bgezall rs offset) := by
  exact (formatI_and 1 0x3F rs 0x0 19 0x1F offset 0x0).trans (by rw [and0 rs, and0 offset]; decide)

theorem EncodingFixed.j (target : BitVec 26) : EncodingFixed.Statement (.j target) := by
  exact (formatJ_and 2 0x3F target 0x0).trans (by rw [and0 target]; decide)

theorem EncodingFixed.jal (target : BitVec 26) : EncodingFixed.Statement (.jal target) := by
  exact (formatJ_and 3 0x3F target 0x0).trans (by rw [and0 target]; decide)

theorem EncodingFixed.beq (rs rt : RegIdx) (offset : BitVec 16) : EncodingFixed.Statement (.beq rs rt offset) := by
  exact (formatI_and 4 0x3F rs 0x0 rt 0x0 offset 0x0).trans (by rw [and0 rs, and0 rt, and0 offset]; decide)

theorem EncodingFixed.bne (rs rt : RegIdx) (offset : BitVec 16) : EncodingFixed.Statement (.bne rs rt offset) := by
  exact (formatI_and 5 0x3F rs 0x0 rt 0x0 offset 0x0).trans (by rw [and0 rs, and0 rt, and0 offset]; decide)

theorem EncodingFixed.blez (rs : RegIdx) (offset : BitVec 16) : EncodingFixed.Statement (.blez rs offset) := by
  exact (formatI_and 6 0x3F rs 0x0 0 0x1F offset 0x0).trans (by rw [and0 rs, and0 offset]; decide)

theorem EncodingFixed.bgtz (rs : RegIdx) (offset : BitVec 16) : EncodingFixed.Statement (.bgtz rs offset) := by
  exact (formatI_and 7 0x3F rs 0x0 0 0x1F offset 0x0).trans (by rw [and0 rs, and0 offset]; decide)

theorem EncodingFixed.addi (rt rs : RegIdx) (imm : BitVec 16) : EncodingFixed.Statement (.addi rt rs imm) := by
  exact (formatI_and 8 0x3F rs 0x0 rt 0x0 imm 0x0).trans (by rw [and0 rs, and0 rt, and0 imm]; decide)

theorem EncodingFixed.addiu (rt rs : RegIdx) (imm : BitVec 16) : EncodingFixed.Statement (.addiu rt rs imm) := by
  exact (formatI_and 9 0x3F rs 0x0 rt 0x0 imm 0x0).trans (by rw [and0 rs, and0 rt, and0 imm]; decide)

theorem EncodingFixed.slti (rt rs : RegIdx) (imm : BitVec 16) : EncodingFixed.Statement (.slti rt rs imm) := by
  exact (formatI_and 10 0x3F rs 0x0 rt 0x0 imm 0x0).trans (by rw [and0 rs, and0 rt, and0 imm]; decide)

theorem EncodingFixed.sltiu (rt rs : RegIdx) (imm : BitVec 16) : EncodingFixed.Statement (.sltiu rt rs imm) := by
  exact (formatI_and 11 0x3F rs 0x0 rt 0x0 imm 0x0).trans (by rw [and0 rs, and0 rt, and0 imm]; decide)

theorem EncodingFixed.andi (rt rs : RegIdx) (imm : BitVec 16) : EncodingFixed.Statement (.andi rt rs imm) := by
  exact (formatI_and 12 0x3F rs 0x0 rt 0x0 imm 0x0).trans (by rw [and0 rs, and0 rt, and0 imm]; decide)

theorem EncodingFixed.ori (rt rs : RegIdx) (imm : BitVec 16) : EncodingFixed.Statement (.ori rt rs imm) := by
  exact (formatI_and 13 0x3F rs 0x0 rt 0x0 imm 0x0).trans (by rw [and0 rs, and0 rt, and0 imm]; decide)

theorem EncodingFixed.xori (rt rs : RegIdx) (imm : BitVec 16) : EncodingFixed.Statement (.xori rt rs imm) := by
  exact (formatI_and 14 0x3F rs 0x0 rt 0x0 imm 0x0).trans (by rw [and0 rs, and0 rt, and0 imm]; decide)

theorem EncodingFixed.lui (rt : RegIdx) (imm : BitVec 16) : EncodingFixed.Statement (.lui rt imm) := by
  exact (formatI_and 15 0x3F 0 0x1F rt 0x0 imm 0x0).trans (by rw [and0 rt, and0 imm]; decide)

theorem EncodingFixed.mfc0 (rt rd : RegIdx) : EncodingFixed.Statement (.mfc0 rt rd) := by
  exact (formatMov_and 0 rt rd).trans (by decide)

theorem EncodingFixed.dmfc0 (rt rd : RegIdx) : EncodingFixed.Statement (.dmfc0 rt rd) := by
  exact (formatMov_and 1 rt rd).trans (by decide)

theorem EncodingFixed.mtc0 (rt rd : RegIdx) : EncodingFixed.Statement (.mtc0 rt rd) := by
  exact (formatMov_and 4 rt rd).trans (by decide)

theorem EncodingFixed.dmtc0 (rt rd : RegIdx) : EncodingFixed.Statement (.dmtc0 rt rd) := by
  exact (formatMov_and 5 rt rd).trans (by decide)

theorem EncodingFixed.tlbr : EncodingFixed.Statement (.tlbr) := by
  exact (by decide : encode .tlbr &&& 0xFFFFFFFF = 0x42000001)

theorem EncodingFixed.tlbwi : EncodingFixed.Statement (.tlbwi) := by
  exact (by decide : encode .tlbwi &&& 0xFFFFFFFF = 0x42000002)

theorem EncodingFixed.tlbwr : EncodingFixed.Statement (.tlbwr) := by
  exact (by decide : encode .tlbwr &&& 0xFFFFFFFF = 0x42000006)

theorem EncodingFixed.tlbp : EncodingFixed.Statement (.tlbp) := by
  exact (by decide : encode .tlbp &&& 0xFFFFFFFF = 0x42000008)

theorem EncodingFixed.eret : EncodingFixed.Statement (.eret) := by
  exact (by decide : encode .eret &&& 0xFFFFFFFF = 0x42000018)

theorem EncodingFixed.cop1 (body : BitVec 26) : EncodingFixed.Statement (.cop1 body) := by
  exact (formatJ_and 17 0x3F body 0x0).trans (by rw [and0 body]; decide)

theorem EncodingFixed.cop2 (body : BitVec 26) : EncodingFixed.Statement (.cop2 body) := by
  exact (formatJ_and 18 0x3F body 0x0).trans (by rw [and0 body]; decide)

theorem EncodingFixed.beql (rs rt : RegIdx) (offset : BitVec 16) : EncodingFixed.Statement (.beql rs rt offset) := by
  exact (formatI_and 20 0x3F rs 0x0 rt 0x0 offset 0x0).trans (by rw [and0 rs, and0 rt, and0 offset]; decide)

theorem EncodingFixed.bnel (rs rt : RegIdx) (offset : BitVec 16) : EncodingFixed.Statement (.bnel rs rt offset) := by
  exact (formatI_and 21 0x3F rs 0x0 rt 0x0 offset 0x0).trans (by rw [and0 rs, and0 rt, and0 offset]; decide)

theorem EncodingFixed.blezl (rs : RegIdx) (offset : BitVec 16) : EncodingFixed.Statement (.blezl rs offset) := by
  exact (formatI_and 22 0x3F rs 0x0 0 0x1F offset 0x0).trans (by rw [and0 rs, and0 offset]; decide)

theorem EncodingFixed.bgtzl (rs : RegIdx) (offset : BitVec 16) : EncodingFixed.Statement (.bgtzl rs offset) := by
  exact (formatI_and 23 0x3F rs 0x0 0 0x1F offset 0x0).trans (by rw [and0 rs, and0 offset]; decide)

theorem EncodingFixed.daddi (rt rs : RegIdx) (imm : BitVec 16) : EncodingFixed.Statement (.daddi rt rs imm) := by
  exact (formatI_and 24 0x3F rs 0x0 rt 0x0 imm 0x0).trans (by rw [and0 rs, and0 rt, and0 imm]; decide)

theorem EncodingFixed.daddiu (rt rs : RegIdx) (imm : BitVec 16) : EncodingFixed.Statement (.daddiu rt rs imm) := by
  exact (formatI_and 25 0x3F rs 0x0 rt 0x0 imm 0x0).trans (by rw [and0 rs, and0 rt, and0 imm]; decide)

theorem EncodingFixed.ldl (rt : RegIdx) (offset : BitVec 16) (base : RegIdx) : EncodingFixed.Statement (.ldl rt offset base) := by
  exact (formatI_and 26 0x3F base 0x0 rt 0x0 offset 0x0).trans (by rw [and0 base, and0 rt, and0 offset]; decide)

theorem EncodingFixed.ldr (rt : RegIdx) (offset : BitVec 16) (base : RegIdx) : EncodingFixed.Statement (.ldr rt offset base) := by
  exact (formatI_and 27 0x3F base 0x0 rt 0x0 offset 0x0).trans (by rw [and0 base, and0 rt, and0 offset]; decide)

theorem EncodingFixed.lb (rt : RegIdx) (offset : BitVec 16) (base : RegIdx) : EncodingFixed.Statement (.lb rt offset base) := by
  exact (formatI_and 32 0x3F base 0x0 rt 0x0 offset 0x0).trans (by rw [and0 base, and0 rt, and0 offset]; decide)

theorem EncodingFixed.lh (rt : RegIdx) (offset : BitVec 16) (base : RegIdx) : EncodingFixed.Statement (.lh rt offset base) := by
  exact (formatI_and 33 0x3F base 0x0 rt 0x0 offset 0x0).trans (by rw [and0 base, and0 rt, and0 offset]; decide)

theorem EncodingFixed.lwl (rt : RegIdx) (offset : BitVec 16) (base : RegIdx) : EncodingFixed.Statement (.lwl rt offset base) := by
  exact (formatI_and 34 0x3F base 0x0 rt 0x0 offset 0x0).trans (by rw [and0 base, and0 rt, and0 offset]; decide)

theorem EncodingFixed.lw (rt : RegIdx) (offset : BitVec 16) (base : RegIdx) : EncodingFixed.Statement (.lw rt offset base) := by
  exact (formatI_and 35 0x3F base 0x0 rt 0x0 offset 0x0).trans (by rw [and0 base, and0 rt, and0 offset]; decide)

theorem EncodingFixed.lbu (rt : RegIdx) (offset : BitVec 16) (base : RegIdx) : EncodingFixed.Statement (.lbu rt offset base) := by
  exact (formatI_and 36 0x3F base 0x0 rt 0x0 offset 0x0).trans (by rw [and0 base, and0 rt, and0 offset]; decide)

theorem EncodingFixed.lhu (rt : RegIdx) (offset : BitVec 16) (base : RegIdx) : EncodingFixed.Statement (.lhu rt offset base) := by
  exact (formatI_and 37 0x3F base 0x0 rt 0x0 offset 0x0).trans (by rw [and0 base, and0 rt, and0 offset]; decide)

theorem EncodingFixed.lwr (rt : RegIdx) (offset : BitVec 16) (base : RegIdx) : EncodingFixed.Statement (.lwr rt offset base) := by
  exact (formatI_and 38 0x3F base 0x0 rt 0x0 offset 0x0).trans (by rw [and0 base, and0 rt, and0 offset]; decide)

theorem EncodingFixed.lwu (rt : RegIdx) (offset : BitVec 16) (base : RegIdx) : EncodingFixed.Statement (.lwu rt offset base) := by
  exact (formatI_and 39 0x3F base 0x0 rt 0x0 offset 0x0).trans (by rw [and0 base, and0 rt, and0 offset]; decide)

theorem EncodingFixed.sb (rt : RegIdx) (offset : BitVec 16) (base : RegIdx) : EncodingFixed.Statement (.sb rt offset base) := by
  exact (formatI_and 40 0x3F base 0x0 rt 0x0 offset 0x0).trans (by rw [and0 base, and0 rt, and0 offset]; decide)

theorem EncodingFixed.sh (rt : RegIdx) (offset : BitVec 16) (base : RegIdx) : EncodingFixed.Statement (.sh rt offset base) := by
  exact (formatI_and 41 0x3F base 0x0 rt 0x0 offset 0x0).trans (by rw [and0 base, and0 rt, and0 offset]; decide)

theorem EncodingFixed.swl (rt : RegIdx) (offset : BitVec 16) (base : RegIdx) : EncodingFixed.Statement (.swl rt offset base) := by
  exact (formatI_and 42 0x3F base 0x0 rt 0x0 offset 0x0).trans (by rw [and0 base, and0 rt, and0 offset]; decide)

theorem EncodingFixed.sw (rt : RegIdx) (offset : BitVec 16) (base : RegIdx) : EncodingFixed.Statement (.sw rt offset base) := by
  exact (formatI_and 43 0x3F base 0x0 rt 0x0 offset 0x0).trans (by rw [and0 base, and0 rt, and0 offset]; decide)

theorem EncodingFixed.sdl (rt : RegIdx) (offset : BitVec 16) (base : RegIdx) : EncodingFixed.Statement (.sdl rt offset base) := by
  exact (formatI_and 44 0x3F base 0x0 rt 0x0 offset 0x0).trans (by rw [and0 base, and0 rt, and0 offset]; decide)

theorem EncodingFixed.sdr (rt : RegIdx) (offset : BitVec 16) (base : RegIdx) : EncodingFixed.Statement (.sdr rt offset base) := by
  exact (formatI_and 45 0x3F base 0x0 rt 0x0 offset 0x0).trans (by rw [and0 base, and0 rt, and0 offset]; decide)

theorem EncodingFixed.swr (rt : RegIdx) (offset : BitVec 16) (base : RegIdx) : EncodingFixed.Statement (.swr rt offset base) := by
  exact (formatI_and 46 0x3F base 0x0 rt 0x0 offset 0x0).trans (by rw [and0 base, and0 rt, and0 offset]; decide)

theorem EncodingFixed.ll (rt : RegIdx) (offset : BitVec 16) (base : RegIdx) : EncodingFixed.Statement (.ll rt offset base) := by
  exact (formatI_and 48 0x3F base 0x0 rt 0x0 offset 0x0).trans (by rw [and0 base, and0 rt, and0 offset]; decide)

theorem EncodingFixed.lld (rt : RegIdx) (offset : BitVec 16) (base : RegIdx) : EncodingFixed.Statement (.lld rt offset base) := by
  exact (formatI_and 52 0x3F base 0x0 rt 0x0 offset 0x0).trans (by rw [and0 base, and0 rt, and0 offset]; decide)

theorem EncodingFixed.ld (rt : RegIdx) (offset : BitVec 16) (base : RegIdx) : EncodingFixed.Statement (.ld rt offset base) := by
  exact (formatI_and 55 0x3F base 0x0 rt 0x0 offset 0x0).trans (by rw [and0 base, and0 rt, and0 offset]; decide)

theorem EncodingFixed.sc (rt : RegIdx) (offset : BitVec 16) (base : RegIdx) : EncodingFixed.Statement (.sc rt offset base) := by
  exact (formatI_and 56 0x3F base 0x0 rt 0x0 offset 0x0).trans (by rw [and0 base, and0 rt, and0 offset]; decide)

theorem EncodingFixed.scd (rt : RegIdx) (offset : BitVec 16) (base : RegIdx) : EncodingFixed.Statement (.scd rt offset base) := by
  exact (formatI_and 60 0x3F base 0x0 rt 0x0 offset 0x0).trans (by rw [and0 base, and0 rt, and0 offset]; decide)

theorem EncodingFixed.sd (rt : RegIdx) (offset : BitVec 16) (base : RegIdx) : EncodingFixed.Statement (.sd rt offset base) := by
  exact (formatI_and 63 0x3F base 0x0 rt 0x0 offset 0x0).trans (by rw [and0 base, and0 rt, and0 offset]; decide)

theorem EncodingFixed.cache (op : BitVec 5) (offset : BitVec 16) (base : RegIdx) : EncodingFixed.Statement (.cache op offset base) := by
  exact (formatI_and 47 0x3F base 0x0 op 0x0 offset 0x0).trans (by rw [and0 base, and0 op, and0 offset]; decide)

theorem EncodingFixed.lwc1 (rt : RegIdx) (offset : BitVec 16) (base : RegIdx) : EncodingFixed.Statement (.lwc1 rt offset base) := by
  exact (formatI_and 49 0x3F base 0x0 rt 0x0 offset 0x0).trans (by rw [and0 base, and0 rt, and0 offset]; decide)

theorem EncodingFixed.lwc2 (rt : RegIdx) (offset : BitVec 16) (base : RegIdx) : EncodingFixed.Statement (.lwc2 rt offset base) := by
  exact (formatI_and 50 0x3F base 0x0 rt 0x0 offset 0x0).trans (by rw [and0 base, and0 rt, and0 offset]; decide)

theorem EncodingFixed.ldc1 (rt : RegIdx) (offset : BitVec 16) (base : RegIdx) : EncodingFixed.Statement (.ldc1 rt offset base) := by
  exact (formatI_and 53 0x3F base 0x0 rt 0x0 offset 0x0).trans (by rw [and0 base, and0 rt, and0 offset]; decide)

theorem EncodingFixed.ldc2 (rt : RegIdx) (offset : BitVec 16) (base : RegIdx) : EncodingFixed.Statement (.ldc2 rt offset base) := by
  exact (formatI_and 54 0x3F base 0x0 rt 0x0 offset 0x0).trans (by rw [and0 base, and0 rt, and0 offset]; decide)

theorem EncodingFixed.swc1 (rt : RegIdx) (offset : BitVec 16) (base : RegIdx) : EncodingFixed.Statement (.swc1 rt offset base) := by
  exact (formatI_and 57 0x3F base 0x0 rt 0x0 offset 0x0).trans (by rw [and0 base, and0 rt, and0 offset]; decide)

theorem EncodingFixed.swc2 (rt : RegIdx) (offset : BitVec 16) (base : RegIdx) : EncodingFixed.Statement (.swc2 rt offset base) := by
  exact (formatI_and 58 0x3F base 0x0 rt 0x0 offset 0x0).trans (by rw [and0 base, and0 rt, and0 offset]; decide)

theorem EncodingFixed.sdc1 (rt : RegIdx) (offset : BitVec 16) (base : RegIdx) : EncodingFixed.Statement (.sdc1 rt offset base) := by
  exact (formatI_and 61 0x3F base 0x0 rt 0x0 offset 0x0).trans (by rw [and0 base, and0 rt, and0 offset]; decide)

theorem EncodingFixed.sdc2 (rt : RegIdx) (offset : BitVec 16) (base : RegIdx) : EncodingFixed.Statement (.sdc2 rt offset base) := by
  exact (formatI_and 62 0x3F base 0x0 rt 0x0 offset 0x0).trans (by rw [and0 base, and0 rt, and0 offset]; decide)

end Sys2Proof.Laws
end

