-- ==== Sys2Proof/Tests/Slice0.lean ====
section
/-! SUPPORT. Tests: the checks of WellFormed on ill-formed terms, decodings of words written out from the opcode table, single steps from
the vectors of 95_test_vectors.md, and for every statement with hypotheses a witness that meets them. -/

namespace Sys2Proof.Tests

open Sys2Proof.Machine

/-! ## WellFormed -/

/-- JALR with rd = rs is ill-formed (R186). -/
theorem test_wf_jalr : (Instr.jalr 8 8).wellFormed = false := by decide

/-- A linking branch on r31 is ill-formed (R186). -/
theorem test_wf_linking_branches :
    (Instr.bltzal 31 1).wellFormed = false ∧ (Instr.bgezal 31 1).wellFormed = false ∧
    (Instr.bltzall 31 1).wellFormed = false ∧ (Instr.bgezall 31 1).wellFormed = false := by decide

/-- CACHE of a cache that does not exist, and a reserved operation of each cache, are ill-formed (R267). -/
theorem test_wf_cache :
    (Instr.cache 0x02 0 4).wellFormed = false ∧ (Instr.cache 0x03 0 4).wellFormed = false ∧
    (Instr.cache 0x1D 0 4).wellFormed = false ∧ (Instr.cache 0x0C 0 4).wellFormed = false ∧
    (Instr.cache 0x1C 0 4).wellFormed = false := by decide

/-- DMTC0 to a 32-bit register is ill-formed (R260). -/
theorem test_wf_dmtc0 : (Instr.dmtc0 8 12).wellFormed = false := by decide

/-- The well-formed neighbours of those terms. -/
theorem test_wf_accepts :
    (Instr.jalr 9 8).wellFormed = true ∧ (Instr.bltzal 30 1).wellFormed = true ∧ (Instr.cache 0x0D 0 4).wellFormed = true ∧
    (Instr.dmtc0 8 14).wellFormed = true ∧ (Instr.add 0 31 31).wellFormed = true := by decide

/-! ## Decode: a word for every row, composed by hand from the row's fixed bits and fields (30_encoding.md R103, R109 to R112) -/

theorem test_decode_special_low :
    Decode.decode 0x00095100 = .instr (.sll 10 9 4) ∧
    Decode.decode 0x00095102 = .instr (.srl 10 9 4) ∧
    Decode.decode 0x00095103 = .instr (.sra 10 9 4) ∧
    Decode.decode 0x01095004 = .instr (.sllv 10 9 8) ∧
    Decode.decode 0x01095006 = .instr (.srlv 10 9 8) ∧
    Decode.decode 0x01095007 = .instr (.srav 10 9 8) ∧
    Decode.decode 0x01000008 = .instr (.jr 8) ∧
    Decode.decode 0x01005009 = .instr (.jalr 10 8) ∧
    Decode.decode 0x0048D14C = .instr (.syscall 0x12345) ∧
    Decode.decode 0x0048D14D = .instr (.brk 0x12345) ∧
    Decode.decode 0x0000000F = .instr .sync := by
  decide

theorem test_decode_special_muldiv :
    Decode.decode 0x00005010 = .instr (.mfhi 10) ∧
    Decode.decode 0x01000011 = .instr (.mthi 8) ∧
    Decode.decode 0x00005012 = .instr (.mflo 10) ∧
    Decode.decode 0x01000013 = .instr (.mtlo 8) ∧
    Decode.decode 0x01095014 = .instr (.dsllv 10 9 8) ∧
    Decode.decode 0x01095016 = .instr (.dsrlv 10 9 8) ∧
    Decode.decode 0x01095017 = .instr (.dsrav 10 9 8) ∧
    Decode.decode 0x01090018 = .instr (.mult 8 9) ∧
    Decode.decode 0x01090019 = .instr (.multu 8 9) ∧
    Decode.decode 0x0109001A = .instr (.div 8 9) ∧
    Decode.decode 0x0109001B = .instr (.divu 8 9) ∧
    Decode.decode 0x0109001C = .instr (.dmult 8 9) ∧
    Decode.decode 0x0109001D = .instr (.dmultu 8 9) ∧
    Decode.decode 0x0109001E = .instr (.ddiv 8 9) ∧
    Decode.decode 0x0109001F = .instr (.ddivu 8 9) := by
  decide

theorem test_decode_special_alu :
    Decode.decode 0x01095020 = .instr (.add 10 8 9) ∧
    Decode.decode 0x01095021 = .instr (.addu 10 8 9) ∧
    Decode.decode 0x01095022 = .instr (.sub 10 8 9) ∧
    Decode.decode 0x01095023 = .instr (.subu 10 8 9) ∧
    Decode.decode 0x01095024 = .instr (.and 10 8 9) ∧
    Decode.decode 0x01095025 = .instr (.or 10 8 9) ∧
    Decode.decode 0x01095026 = .instr (.xor 10 8 9) ∧
    Decode.decode 0x01095027 = .instr (.nor 10 8 9) ∧
    Decode.decode 0x0109502A = .instr (.slt 10 8 9) ∧
    Decode.decode 0x0109502B = .instr (.sltu 10 8 9) ∧
    Decode.decode 0x0109502C = .instr (.dadd 10 8 9) ∧
    Decode.decode 0x0109502D = .instr (.daddu 10 8 9) ∧
    Decode.decode 0x0109502E = .instr (.dsub 10 8 9) ∧
    Decode.decode 0x0109502F = .instr (.dsubu 10 8 9) := by
  decide

theorem test_decode_special_high :
    Decode.decode 0x01095570 = .instr (.tge 8 9 0x155) ∧
    Decode.decode 0x01095571 = .instr (.tgeu 8 9 0x155) ∧
    Decode.decode 0x01095572 = .instr (.tlt 8 9 0x155) ∧
    Decode.decode 0x01095573 = .instr (.tltu 8 9 0x155) ∧
    Decode.decode 0x01095574 = .instr (.teq 8 9 0x155) ∧
    Decode.decode 0x01095576 = .instr (.tne 8 9 0x155) ∧
    Decode.decode 0x00095138 = .instr (.dsll 10 9 4) ∧
    Decode.decode 0x0009513A = .instr (.dsrl 10 9 4) ∧
    Decode.decode 0x0009513B = .instr (.dsra 10 9 4) ∧
    Decode.decode 0x0009513C = .instr (.dsll32 10 9 4) ∧
    Decode.decode 0x0009513E = .instr (.dsrl32 10 9 4) ∧
    Decode.decode 0x0009513F = .instr (.dsra32 10 9 4) := by
  decide

theorem test_decode_regimm :
    Decode.decode 0x05008003 = .instr (.bltz 8 0x8003) ∧
    Decode.decode 0x05018003 = .instr (.bgez 8 0x8003) ∧
    Decode.decode 0x05028003 = .instr (.bltzl 8 0x8003) ∧
    Decode.decode 0x05038003 = .instr (.bgezl 8 0x8003) ∧
    Decode.decode 0x0508FFFB = .instr (.tgei 8 0xFFFB) ∧
    Decode.decode 0x0509FFFB = .instr (.tgeiu 8 0xFFFB) ∧
    Decode.decode 0x050AFFFB = .instr (.tlti 8 0xFFFB) ∧
    Decode.decode 0x050BFFFB = .instr (.tltiu 8 0xFFFB) ∧
    Decode.decode 0x050CFFFB = .instr (.teqi 8 0xFFFB) ∧
    Decode.decode 0x050EFFFB = .instr (.tnei 8 0xFFFB) ∧
    Decode.decode 0x05108003 = .instr (.bltzal 8 0x8003) ∧
    Decode.decode 0x05118003 = .instr (.bgezal 8 0x8003) ∧
    Decode.decode 0x05128003 = .instr (.bltzall 8 0x8003) ∧
    Decode.decode 0x05138003 = .instr (.bgezall 8 0x8003) := by
  decide

theorem test_decode_immediate :
    Decode.decode 0x0A000100 = .instr (.j 0x2000100) ∧
    Decode.decode 0x0E000100 = .instr (.jal 0x2000100) ∧
    Decode.decode 0x11098003 = .instr (.beq 8 9 0x8003) ∧
    Decode.decode 0x15098003 = .instr (.bne 8 9 0x8003) ∧
    Decode.decode 0x19008003 = .instr (.blez 8 0x8003) ∧
    Decode.decode 0x1D008003 = .instr (.bgtz 8 0x8003) ∧
    Decode.decode 0x2109FFFB = .instr (.addi 9 8 0xFFFB) ∧
    Decode.decode 0x2509FFFB = .instr (.addiu 9 8 0xFFFB) ∧
    Decode.decode 0x2909FFFB = .instr (.slti 9 8 0xFFFB) ∧
    Decode.decode 0x2D09FFFB = .instr (.sltiu 9 8 0xFFFB) ∧
    Decode.decode 0x3109FFFB = .instr (.andi 9 8 0xFFFB) ∧
    Decode.decode 0x3509FFFB = .instr (.ori 9 8 0xFFFB) ∧
    Decode.decode 0x3909FFFB = .instr (.xori 9 8 0xFFFB) ∧
    Decode.decode 0x3C09FFFB = .instr (.lui 9 0xFFFB) ∧
    Decode.decode 0x51098003 = .instr (.beql 8 9 0x8003) ∧
    Decode.decode 0x55098003 = .instr (.bnel 8 9 0x8003) ∧
    Decode.decode 0x59008003 = .instr (.blezl 8 0x8003) ∧
    Decode.decode 0x5D008003 = .instr (.bgtzl 8 0x8003) ∧
    Decode.decode 0x6109FFFB = .instr (.daddi 9 8 0xFFFB) ∧
    Decode.decode 0x6509FFFB = .instr (.daddiu 9 8 0xFFFB) := by
  decide

theorem test_decode_cop0 :
    Decode.decode 0x40095000 = .instr (.mfc0 9 10) ∧
    Decode.decode 0x40295000 = .instr (.dmfc0 9 10) ∧
    Decode.decode 0x40895000 = .instr (.mtc0 9 10) ∧
    Decode.decode 0x40A95000 = .instr (.dmtc0 9 10) ∧
    Decode.decode 0x42000001 = .instr .tlbr ∧
    Decode.decode 0x42000002 = .instr .tlbwi ∧
    Decode.decode 0x42000006 = .instr .tlbwr ∧
    Decode.decode 0x42000008 = .instr .tlbp ∧
    Decode.decode 0x42000018 = .instr .eret := by
  decide

theorem test_decode_coprocessor :
    Decode.decode 0x46000041 = .instr (.cop1 0x2000041) ∧
    Decode.decode 0x4A000041 = .instr (.cop2 0x2000041) ∧
    Decode.decode 0xC4898003 = .instr (.lwc1 9 0x8003 4) ∧
    Decode.decode 0xC8898003 = .instr (.lwc2 9 0x8003 4) ∧
    Decode.decode 0xD4898003 = .instr (.ldc1 9 0x8003 4) ∧
    Decode.decode 0xD8898003 = .instr (.ldc2 9 0x8003 4) ∧
    Decode.decode 0xE4898003 = .instr (.swc1 9 0x8003 4) ∧
    Decode.decode 0xE8898003 = .instr (.swc2 9 0x8003 4) ∧
    Decode.decode 0xF4898003 = .instr (.sdc1 9 0x8003 4) ∧
    Decode.decode 0xF8898003 = .instr (.sdc2 9 0x8003 4) := by
  decide

theorem test_decode_load :
    Decode.decode 0x68898003 = .instr (.ldl 9 0x8003 4) ∧
    Decode.decode 0x6C898003 = .instr (.ldr 9 0x8003 4) ∧
    Decode.decode 0x80898003 = .instr (.lb 9 0x8003 4) ∧
    Decode.decode 0x84898003 = .instr (.lh 9 0x8003 4) ∧
    Decode.decode 0x88898003 = .instr (.lwl 9 0x8003 4) ∧
    Decode.decode 0x8C898003 = .instr (.lw 9 0x8003 4) ∧
    Decode.decode 0x90898003 = .instr (.lbu 9 0x8003 4) ∧
    Decode.decode 0x94898003 = .instr (.lhu 9 0x8003 4) ∧
    Decode.decode 0x98898003 = .instr (.lwr 9 0x8003 4) ∧
    Decode.decode 0x9C898003 = .instr (.lwu 9 0x8003 4) := by
  decide

theorem test_decode_store :
    Decode.decode 0xA0898003 = .instr (.sb 9 0x8003 4) ∧
    Decode.decode 0xA4898003 = .instr (.sh 9 0x8003 4) ∧
    Decode.decode 0xA8898003 = .instr (.swl 9 0x8003 4) ∧
    Decode.decode 0xAC898003 = .instr (.sw 9 0x8003 4) ∧
    Decode.decode 0xB0898003 = .instr (.sdl 9 0x8003 4) ∧
    Decode.decode 0xB4898003 = .instr (.sdr 9 0x8003 4) ∧
    Decode.decode 0xB8898003 = .instr (.swr 9 0x8003 4) ∧
    Decode.decode 0xC0898003 = .instr (.ll 9 0x8003 4) ∧
    Decode.decode 0xD0898003 = .instr (.lld 9 0x8003 4) ∧
    Decode.decode 0xDC898003 = .instr (.ld 9 0x8003 4) ∧
    Decode.decode 0xE0898003 = .instr (.sc 9 0x8003 4) ∧
    Decode.decode 0xF0898003 = .instr (.scd 9 0x8003 4) ∧
    Decode.decode 0xFC898003 = .instr (.sd 9 0x8003 4) ∧
    Decode.decode 0xBC8D8003 = .instr (.cache 13 0x8003 4) := by
  decide

/-- Words of each class that is no instruction (R114 to R116): reserved, reserved COP0, unmodelled, nonzero must-be-zero field. -/
theorem test_decode_others :
    Decode.decode 0x70000000 = .reserved false ∧ Decode.decode 0x42000003 = .reserved true ∧
    Decode.decode 0x41000000 = .unmodelled ∧ Decode.decode 0x00200000 = .nonzeroReserved (.sll 0 0 0) ∧
    Decode.decode 0x40C00000 = .reserved true ∧ Decode.decode 0x01000001 = .reserved false := by decide

/-- A table word reaches the decoder through its big-endian bytes, and the step fetches a placed word. -/
theorem test_host_words :
    decodeTableWord 32 0x01095020 = some (.add 10 8 9) ∧ decodeTableWord 32 0x41000000 = none ∧
    fetch (State.reset.withFetchWord 32 0x01095020) =
      .ok (0x01095020, State.reset.withFetchWord 32 0x01095020) := ⟨by decide, by decide, rfl⟩

/-! ## Single steps, from 95_test_vectors.md -/

/-- The start state of the vectors: after reset with P_CONFIG_EC = 0, pc in kseg0, eight bytes at physical 0x100. -/
def base : State :=
  { State.fresh { Params.default with configEC := 0 } with
    pc := 0xFFFFFFFF80001000
    nextPc := 0xFFFFFFFF80001004
    mem := Memory.writeBE [] 0x100 fullMask 8 0x1122334455667788 }

/-- A state with registers set. -/
def setRegs (l : List (RegIdx × DWord)) (s : State) : State := l.foldl (fun s p => writeReg s p.1 p.2) s

/-- A state with LLbit set. -/
def setLLbit (b : Bool) (s : State) : State := { s with llbit := b }

/-- A state with CP0 registers set. -/
def setCp0 (f : Cp0 → Cp0) (s : State) : State := { s with cp0 := f s.cp0 }

/-- A state with Status set. -/
def setStatus (v : Word) (s : State) : State := { s with cp0 := { s.cp0 with status := v } }

/-- The registers the vectors of section 5 start from. -/
def loadBase : State := setRegs [(8, 0xDEAD), (4, 0xFFFFFFFF80000100), (9, 0xAABBCCDD)] base

/-- TLB entry 5 of the vectors' user mode. -/
def entry5 : TlbEntry :=
  { mask := 0, r := 0, vpn2 := 0x200, asid := 0, g := true, even := ⟨0, 2, true, true⟩, odd := ⟨1, 2, true, true⟩ }

/-- The vectors' user mode. -/
def userize (s : State) : State :=
  setStatus 0x00400010 { s with pc := 0x00401000, nextPc := 0x00401004, tlb := s.tlb.set 5 entry5 }

/-- What the execution of a word leaves. -/
def runs (w : Word) (s : State) (f : State → Bool) : Bool :=
  match execDecoded (Decode.decode w) s with
  | .next t => f t
  | .fault _ => false
  | .refused _ => false

/-- Whether the execution of a word is refused for a reason. -/
def refuses (w : Word) (s : State) (r : Refusal) : Bool :=
  match execDecoded (Decode.decode w) s with
  | .next _ => false
  | .fault _ => false
  | .refused r' => decide (r' = r)

/-- Section 2, row 1. -/
theorem test_add_1 : runs 0x01095020 (setRegs [(8, 0x5), (9, 0x7)] base)
    (fun t => decide (readReg t 10 = 0xC)) = true := by decide

/-- Section 2, row 2. -/
theorem test_add_2 : runs 0x01095020 (setRegs [(8, 0x7FFFFFFF), (9, 0x1), (10, 0xDEAD)] base)
    (fun t => decide (t.pc = 0xFFFFFFFFBFC00380) && decide (t.cp0.status = 0x400006) && decide (t.stepFault = some .ov) && decide (t.cp0.epc = 0xFFFFFFFF80001000)) = true := by decide

/-- Section 2, row 5. -/
theorem test_addu_1 : runs 0x01095021 (setRegs [(8, 0x7FFFFFFF), (9, 0x1)] base)
    (fun t => decide (readReg t 10 = 0xFFFFFFFF80000000)) = true := by decide

/-- Section 2, row 6. -/
theorem test_addi_1 : runs 0x2129FFFF (setRegs [(9, 0x0)] base)
    (fun t => decide (readReg t 9 = 0xFFFFFFFFFFFFFFFF)) = true := by decide

/-- Section 2, row 7. -/
theorem test_addi_2 : runs 0x21290001 (setRegs [(9, 0x7FFFFFFF)] base)
    (fun t => decide (t.pc = 0xFFFFFFFFBFC00380) && decide (t.cp0.status = 0x400006) && decide (t.stepFault = some .ov) && decide (t.cp0.epc = 0xFFFFFFFF80001000)) = true := by decide

/-- Section 2, row 8. -/
theorem test_addiu_1 : runs 0x24080005 base
    (fun t => decide (readReg t 8 = 0x5)) = true := by decide

/-- Section 2, row 10. -/
theorem test_sub_1 : runs 0x01095022 (setRegs [(8, 0x3), (9, 0x5)] base)
    (fun t => decide (readReg t 10 = 0xFFFFFFFFFFFFFFFE)) = true := by decide

/-- Section 2, row 11. -/
theorem test_sub_2 : runs 0x01095022 (setRegs [(8, 0xFFFFFFFF80000000), (9, 0x1)] base)
    (fun t => decide (t.pc = 0xFFFFFFFFBFC00380) && decide (t.cp0.status = 0x400006) && decide (t.stepFault = some .ov) && decide (t.cp0.epc = 0xFFFFFFFF80001000)) = true := by decide

/-- Section 2, row 12. -/
theorem test_subu_1 : runs 0x01095023 (setRegs [(8, 0xFFFFFFFF80000000), (9, 0x1)] base)
    (fun t => decide (readReg t 10 = 0x7FFFFFFF)) = true := by decide

/-- Section 2, row 13. -/
theorem test_dadd_1 : runs 0x0109502C (setRegs [(8, 0x7FFFFFFFFFFFFFFF), (9, 0x1)] base)
    (fun t => decide (t.pc = 0xFFFFFFFFBFC00380) && decide (t.cp0.status = 0x400006) && decide (t.stepFault = some .ov) && decide (t.cp0.epc = 0xFFFFFFFF80001000)) = true := by decide

/-- Section 2, row 15. -/
theorem test_daddu_1 : runs 0x0109502D (setRegs [(8, 0xFFFFFFFFFFFFFFFF), (9, 0x2)] base)
    (fun t => decide (readReg t 10 = 0x1)) = true := by decide

/-- Section 2, row 16. -/
theorem test_daddi_1 : runs 0x610AFFFF (setRegs [(8, 0x8000000000000000)] base)
    (fun t => decide (t.pc = 0xFFFFFFFFBFC00380) && decide (t.cp0.status = 0x400006) && decide (t.stepFault = some .ov) && decide (t.cp0.epc = 0xFFFFFFFF80001000)) = true := by decide

/-- Section 2, row 17. -/
theorem test_daddiu_1 : runs 0x650AFFFF (setRegs [(8, 0x0)] base)
    (fun t => decide (readReg t 10 = 0xFFFFFFFFFFFFFFFF)) = true := by decide

/-- Section 2, row 18. -/
theorem test_dsub_1 : runs 0x0109502E (setRegs [(8, 0x8000000000000000), (9, 0x1)] base)
    (fun t => decide (t.pc = 0xFFFFFFFFBFC00380) && decide (t.cp0.status = 0x400006) && decide (t.stepFault = some .ov) && decide (t.cp0.epc = 0xFFFFFFFF80001000)) = true := by decide

/-- Section 2, row 19. -/
theorem test_dsubu_1 : runs 0x0109502F (setRegs [(8, 0x0), (9, 0x1)] base)
    (fun t => decide (readReg t 10 = 0xFFFFFFFFFFFFFFFF)) = true := by decide

/-- Section 2, row 20. -/
theorem test_daddu_2 : runs 0x0109502D (setRegs [(8, 0x1), (9, 0x2)] (userize base))
    (fun t => decide (t.pc = 0xFFFFFFFFBFC00380) && decide (t.cp0.status = 0x400012) && decide (t.stepFault = some .ri) && decide (t.cp0.epc = 0x401000)) = true := by decide

/-- Section 2, row 22. -/
theorem test_slt_1 : runs 0x0109502A (setRegs [(8, 0xFFFFFFFFFFFFFFFF), (9, 0x1)] base)
    (fun t => decide (readReg t 10 = 0x1)) = true := by decide

/-- Section 2, row 23. -/
theorem test_sltu_1 : runs 0x0109502B (setRegs [(8, 0xFFFFFFFFFFFFFFFF), (9, 0x1)] base)
    (fun t => decide (readReg t 10 = 0x0)) = true := by decide

/-- Section 2, row 24. -/
theorem test_slti_1 : runs 0x290AFFFB (setRegs [(8, 0xFFFFFFFFFFFFFFFA)] base)
    (fun t => decide (readReg t 10 = 0x1)) = true := by decide

/-- Section 2, row 25. -/
theorem test_sltiu_1 : runs 0x2D0AFFFF (setRegs [(8, 0x7FFFFFFFFFFFFFFF)] base)
    (fun t => decide (readReg t 10 = 0x1)) = true := by decide

/-- Section 2, row 26. -/
theorem test_and_1 : runs 0x01095024 (setRegs [(8, 0xFF00FF00), (9, 0xFF00FF0)] base)
    (fun t => decide (readReg t 10 = 0xF000F00)) = true := by decide

/-- Section 2, row 27. -/
theorem test_or_1 : runs 0x01095025 (setRegs [(8, 0xFF00FF00), (9, 0xFF00FF0)] base)
    (fun t => decide (readReg t 10 = 0xFFF0FFF0)) = true := by decide

/-- Section 2, row 28. -/
theorem test_xor_1 : runs 0x01095026 (setRegs [(8, 0xFF00FF00), (9, 0xFF00FF0)] base)
    (fun t => decide (readReg t 10 = 0xF0F0F0F0)) = true := by decide

/-- Section 2, row 29. -/
theorem test_nor_1 : runs 0x01095027 (setRegs [(8, 0xFF00FF00), (9, 0xFF00FF0)] base)
    (fun t => decide (readReg t 10 = 0xFFFFFFFF000F000F)) = true := by decide

/-- Section 2, row 30. -/
theorem test_andi_1 : runs 0x310AFFFF (setRegs [(8, 0xFFFFFFFFFFFFFFFF)] base)
    (fun t => decide (readReg t 10 = 0xFFFF)) = true := by decide

/-- Section 2, row 31. -/
theorem test_ori_1 : runs 0x350A8000 (setRegs [(8, 0x0)] base)
    (fun t => decide (readReg t 10 = 0x8000)) = true := by decide

/-- Section 2, row 32. -/
theorem test_xori_1 : runs 0x390AFFFF (setRegs [(8, 0xFFFFFFFFFFFFFFFF)] base)
    (fun t => decide (readReg t 10 = 0xFFFFFFFFFFFF0000)) = true := by decide

/-- Section 2, row 33. -/
theorem test_lui_1 : runs 0x3C0A8000 base
    (fun t => decide (readReg t 10 = 0xFFFFFFFF80000000)) = true := by decide

/-- Section 2, row 36. -/
theorem test_sll_1 : runs 0x00095000 (setRegs [(9, 0x180000000)] base)
    (fun t => decide (readReg t 10 = 0xFFFFFFFF80000000)) = true := by decide

/-- Section 2, row 37. -/
theorem test_srl_1 : runs 0x00095102 (setRegs [(9, 0xFFFFFFFF80000000)] base)
    (fun t => decide (readReg t 10 = 0x8000000)) = true := by decide

/-- Section 2, row 39. -/
theorem test_sra_1 : runs 0x00095103 (setRegs [(9, 0xFFFFFFFF80000000)] base)
    (fun t => decide (readReg t 10 = 0xFFFFFFFFF8000000)) = true := by decide

/-- Section 2, row 41. -/
theorem test_sllv_1 : runs 0x01095004 (setRegs [(8, 0x21), (9, 0x1)] base)
    (fun t => decide (readReg t 10 = 0x2)) = true := by decide

/-- Section 2, row 42. -/
theorem test_srlv_1 : runs 0x01095006 (setRegs [(8, 0x1F), (9, 0xFFFFFFFF80000000)] base)
    (fun t => decide (readReg t 10 = 0x1)) = true := by decide

/-- Section 2, row 43. -/
theorem test_srav_1 : runs 0x01095007 (setRegs [(8, 0x1F), (9, 0xFFFFFFFF80000000)] base)
    (fun t => decide (readReg t 10 = 0xFFFFFFFFFFFFFFFF)) = true := by decide

/-- Section 2, row 44. -/
theorem test_dsll_1 : runs 0x00095138 (setRegs [(9, 0xF00000000000001)] base)
    (fun t => decide (readReg t 10 = 0xF000000000000010)) = true := by decide

/-- Section 2, row 45. -/
theorem test_dsrl_1 : runs 0x0009513A (setRegs [(9, 0x8000000000000000)] base)
    (fun t => decide (readReg t 10 = 0x800000000000000)) = true := by decide

/-- Section 2, row 46. -/
theorem test_dsra_1 : runs 0x0009513B (setRegs [(9, 0x8000000000000000)] base)
    (fun t => decide (readReg t 10 = 0xF800000000000000)) = true := by decide

/-- Section 2, row 47. -/
theorem test_dsll32_1 : runs 0x0009503C (setRegs [(9, 0x12345678)] base)
    (fun t => decide (readReg t 10 = 0x1234567800000000)) = true := by decide

/-- Section 2, row 48. -/
theorem test_dsrl32_1 : runs 0x000957FE (setRegs [(9, 0x8000000000000000)] base)
    (fun t => decide (readReg t 10 = 0x1)) = true := by decide

/-- Section 2, row 49. -/
theorem test_dsra32_1 : runs 0x0009503F (setRegs [(9, 0x8000000000000000)] base)
    (fun t => decide (readReg t 10 = 0xFFFFFFFF80000000)) = true := by decide

/-- Section 2, row 50. -/
theorem test_dsllv_1 : runs 0x01095014 (setRegs [(8, 0x41), (9, 0x1)] base)
    (fun t => decide (readReg t 10 = 0x2)) = true := by decide

/-- Section 2, row 51. -/
theorem test_dsrlv_1 : runs 0x01095016 (setRegs [(8, 0x3F), (9, 0x8000000000000000)] base)
    (fun t => decide (readReg t 10 = 0x1)) = true := by decide

/-- Section 2, row 52. -/
theorem test_dsrav_1 : runs 0x01095017 (setRegs [(8, 0x3F), (9, 0x8000000000000000)] base)
    (fun t => decide (readReg t 10 = 0xFFFFFFFFFFFFFFFF)) = true := by decide

/-- Section 3, row 1. -/
theorem test_mult_1 : runs 0x01090018 (setRegs [(8, 0x7FFFFFFF), (9, 0x2)] base)
    (fun t => decide (t.hi = 0x0) && decide (t.lo = 0xFFFFFFFFFFFFFFFE)) = true := by decide

/-- Section 3, row 2. -/
theorem test_mult_2 : runs 0x01090018 (setRegs [(8, 0xFFFFFFFFFFFFFFFF), (9, 0xFFFFFFFFFFFFFFFF)] base)
    (fun t => decide (t.hi = 0x0) && decide (t.lo = 0x1)) = true := by decide

/-- Section 3, row 3. -/
theorem test_multu_1 : runs 0x01090019 (setRegs [(8, 0xFFFFFFFFFFFFFFFF), (9, 0xFFFFFFFFFFFFFFFF)] base)
    (fun t => decide (t.hi = 0xFFFFFFFFFFFFFFFE) && decide (t.lo = 0x1)) = true := by decide

/-- Section 3, row 5. -/
theorem test_div_1 : runs 0x0109001A (setRegs [(8, 0x7), (9, 0xFFFFFFFFFFFFFFFE)] base)
    (fun t => decide (t.hi = 0x1) && decide (t.lo = 0xFFFFFFFFFFFFFFFD)) = true := by decide

/-- Section 3, row 6. -/
theorem test_div_2 : runs 0x0109001A (setRegs [(8, 0xFFFFFFFFFFFFFFF9), (9, 0x2)] base)
    (fun t => decide (t.hi = 0xFFFFFFFFFFFFFFFF) && decide (t.lo = 0xFFFFFFFFFFFFFFFD)) = true := by decide

/-- Section 3, row 9. -/
theorem test_divu_1 : runs 0x0109001B (setRegs [(8, 0xFFFFFFFFFFFFFFFF), (9, 0x2)] base)
    (fun t => decide (t.hi = 0x1) && decide (t.lo = 0x7FFFFFFF)) = true := by decide

/-- Section 3, row 10. -/
theorem test_dmult_1 : runs 0x0109001C (setRegs [(8, 0xFFFFFFFFFFFFFFFF), (9, 0x7FFFFFFFFFFFFFFF)] base)
    (fun t => decide (t.hi = 0xFFFFFFFFFFFFFFFF) && decide (t.lo = 0x8000000000000001)) = true := by decide

/-- Section 3, row 11. -/
theorem test_dmultu_1 : runs 0x0109001D (setRegs [(8, 0xFFFFFFFFFFFFFFFF), (9, 0xFFFFFFFFFFFFFFFF)] base)
    (fun t => decide (t.hi = 0xFFFFFFFFFFFFFFFE) && decide (t.lo = 0x1)) = true := by decide

/-- Section 3, row 12. -/
theorem test_ddiv_1 : runs 0x0109001E (setRegs [(8, 0xFFFFFFFFFFFFFFF9), (9, 0x2)] base)
    (fun t => decide (t.hi = 0xFFFFFFFFFFFFFFFF) && decide (t.lo = 0xFFFFFFFFFFFFFFFD)) = true := by decide

/-- Section 3, row 13. -/
theorem test_ddiv_2 : runs 0x0109001E (setRegs [(8, 0x8000000000000000), (9, 0xFFFFFFFFFFFFFFFF)] base)
    (fun t => decide (t.hi = 0x0) && decide (t.lo = 0x8000000000000000)) = true := by decide

/-- Section 3, row 14. -/
theorem test_ddivu_1 : runs 0x0109001F (setRegs [(8, 0xFFFFFFFFFFFFFFFF), (9, 0x10)] base)
    (fun t => decide (t.hi = 0xF) && decide (t.lo = 0xFFFFFFFFFFFFFFF)) = true := by decide

/-- Section 3, row 15. -/
theorem test_mfhi_1 : runs 0x00005010 ((fun s : State => { s with hi := 0x1234 }) base)
    (fun t => decide (readReg t 10 = 0x1234) && decide (t.hiReadAge = 3)) = true := by decide

/-- Section 3, row 16. -/
theorem test_mflo_1 : runs 0x00005012 ((fun s : State => { s with lo := 0x5678 }) base)
    (fun t => decide (readReg t 10 = 0x5678) && decide (t.loReadAge = 3)) = true := by decide

/-- Section 3, row 17. -/
theorem test_mthi_1 : runs 0x01000011 (setRegs [(8, 0xABCD)] base)
    (fun t => decide (t.hi = 0xABCD)) = true := by decide

/-- Section 3, row 18. -/
theorem test_mtlo_1 : runs 0x01000013 (setRegs [(8, 0xABCD)] base)
    (fun t => decide (t.lo = 0xABCD)) = true := by decide

/-- Section 4, row 1. -/
theorem test_beq_1 : runs 0x11090003 (setRegs [(8, 0x3), (9, 0x3)] base)
    (fun t => decide (t.nextPc = 0xFFFFFFFF80001010) && t.inDelaySlot) = true := by decide

/-- Section 4, row 4. -/
theorem test_bne_1 : runs 0x1509FFFD (setRegs [(8, 0x1), (9, 0x2)] base)
    (fun t => decide (t.nextPc = 0xFFFFFFFF80000FF8) && t.inDelaySlot) = true := by decide

/-- Section 4, row 5. -/
theorem test_blez_1 : runs 0x19000001 (setRegs [(8, 0x0)] base)
    (fun t => t.inDelaySlot && decide (t.nextPc = t.pc + 4)) = true := by decide

/-- Section 4, row 6. -/
theorem test_bgtz_1 : runs 0x1D000001 (setRegs [(8, 0x0)] base)
    (fun t => t.inDelaySlot && decide (t.nextPc = t.pc + 4)) = true := by decide

/-- Section 4, row 7. -/
theorem test_bltz_1 : runs 0x05000001 (setRegs [(8, 0x8000000000000000)] base)
    (fun t => t.inDelaySlot && decide (t.nextPc = t.pc + 4)) = true := by decide

/-- Section 4, row 8. -/
theorem test_bgez_1 : runs 0x05010001 (setRegs [(8, 0x0)] base)
    (fun t => t.inDelaySlot && decide (t.nextPc = t.pc + 4)) = true := by decide

/-- Section 4, row 9. -/
theorem test_beql_1 : runs 0x51090003 (setRegs [(8, 0x1), (9, 0x2)] base)
    (fun t => decide (t.pc = 0xFFFFFFFF80001008)) = true := by decide

/-- Section 4, row 11. -/
theorem test_bnel_1 : runs 0x55090003 (setRegs [(8, 0x2), (9, 0x2)] base)
    (fun t => decide (t.pc = 0xFFFFFFFF80001008)) = true := by decide

/-- Section 4, row 12. -/
theorem test_blezl_1 : runs 0x59000003 (setRegs [(8, 0x1)] base)
    (fun t => decide (t.pc = 0xFFFFFFFF80001008)) = true := by decide

/-- Section 4, row 13. -/
theorem test_bgtzl_1 : runs 0x5D000003 (setRegs [(8, 0x1)] base)
    (fun t => decide (t.nextPc = 0xFFFFFFFF80001010) && t.inDelaySlot) = true := by decide

/-- Section 4, row 14. -/
theorem test_bltzl_1 : runs 0x05020003 (setRegs [(8, 0x1)] base)
    (fun t => decide (t.pc = 0xFFFFFFFF80001008)) = true := by decide

/-- Section 4, row 15. -/
theorem test_bgezl_1 : runs 0x05030003 (setRegs [(8, 0xFFFFFFFFFFFFFFFF)] base)
    (fun t => decide (t.pc = 0xFFFFFFFF80001008)) = true := by decide

/-- Section 4, row 16. -/
theorem test_bltzal_1 : runs 0x05100003 (setRegs [(8, 0xFFFFFFFFFFFFFFFF)] base)
    (fun t => decide (t.nextPc = 0xFFFFFFFF80001010) && t.inDelaySlot && decide (readReg t 31 = 0xFFFFFFFF80001008)) = true := by decide

/-- Section 4, row 17. -/
theorem test_bgezal_1 : runs 0x05110003 (setRegs [(8, 0xFFFFFFFFFFFFFFFF)] base)
    (fun t => t.inDelaySlot && decide (t.nextPc = t.pc + 4) && decide (readReg t 31 = 0xFFFFFFFF80001008)) = true := by decide

/-- Section 4, row 18. -/
theorem test_bltzall_1 : runs 0x05120003 (setRegs [(8, 0x1)] base)
    (fun t => decide (t.pc = 0xFFFFFFFF80001008) && decide (readReg t 31 = 0xFFFFFFFF80001008)) = true := by decide

/-- Section 4, row 19. -/
theorem test_bgezall_1 : runs 0x05130003 (setRegs [(8, 0x1)] base)
    (fun t => decide (t.nextPc = 0xFFFFFFFF80001010) && t.inDelaySlot && decide (readReg t 31 = 0xFFFFFFFF80001008)) = true := by decide

/-- Section 4, row 20. -/
theorem test_bgezal_2 : refuses 0x07F10003 (setRegs [(31, 0x1)] base) .linkOverwritesSource = true := by decide

/-- Section 4, row 21. -/
theorem test_j_1 : runs 0x08000100 base
    (fun t => decide (t.nextPc = 0xFFFFFFFF80000400) && t.inDelaySlot) = true := by decide

/-- Section 4, row 22. -/
theorem test_jal_1 : runs 0x0C000800 base
    (fun t => decide (t.nextPc = 0xFFFFFFFF80002000) && t.inDelaySlot && decide (readReg t 31 = 0xFFFFFFFF80001008)) = true := by decide

/-- Section 4, row 23. -/
theorem test_jr_1 : runs 0x01000008 (setRegs [(8, 0xFFFFFFFF80002000)] base)
    (fun t => decide (t.nextPc = 0xFFFFFFFF80002000) && t.inDelaySlot) = true := by decide

/-- Section 4, row 25. -/
theorem test_jalr_1 : runs 0x01004809 (setRegs [(8, 0xFFFFFFFF80002000)] base)
    (fun t => decide (t.nextPc = 0xFFFFFFFF80002000) && t.inDelaySlot && decide (readReg t 9 = 0xFFFFFFFF80001008)) = true := by decide

/-- Section 4, row 26. -/
theorem test_jalr_2 : refuses 0x01004009 (setRegs [(8, 0xFFFFFFFF80002000)] base) .linkOverwritesSource = true := by decide

/-- Section 5, row 2. -/
theorem test_lb_1 : runs 0x80880008 ((fun s : State => { s with mem := s.mem.write 0x108 0xFF }) loadBase)
    (fun t => decide (readReg t 8 = 0xFFFFFFFFFFFFFFFF)) = true := by decide

/-- Section 5, row 3. -/
theorem test_lbu_1 : runs 0x90880008 ((fun s : State => { s with mem := s.mem.write 0x108 0xFF }) loadBase)
    (fun t => decide (readReg t 8 = 0xFF)) = true := by decide

/-- Section 5, row 4. -/
theorem test_lh_1 : runs 0x84880008 ((fun s : State => { s with mem := s.mem.writeBE 0x108 fullMask 2 0x8001 }) loadBase)
    (fun t => decide (readReg t 8 = 0xFFFFFFFFFFFF8001)) = true := by decide

/-- Section 5, row 5. -/
theorem test_lhu_1 : runs 0x94880008 ((fun s : State => { s with mem := s.mem.writeBE 0x108 fullMask 2 0x8001 }) loadBase)
    (fun t => decide (readReg t 8 = 0x8001)) = true := by decide

/-- Section 5, row 6. -/
theorem test_lh_2 : runs 0x84880003 loadBase
    (fun t => decide (readReg t 8 = 0x3344)) = true := by decide

/-- Section 5, row 7. -/
theorem test_lw_1 : runs 0x8C880000 loadBase
    (fun t => decide (readReg t 8 = 0x11223344)) = true := by decide

/-- Section 5, row 8. -/
theorem test_lw_2 : runs 0x8C880006 loadBase
    (fun t => decide (readReg t 8 = 0x55667788)) = true := by decide

/-- Section 5, row 11. -/
theorem test_lwu_1 : runs 0x9C880004 ((fun s : State => { s with mem := s.mem.writeBE 0x104 fullMask 4 0x80000001 }) loadBase)
    (fun t => decide (readReg t 8 = 0x80000001)) = true := by decide

/-- Section 5, row 12. -/
theorem test_ld_1 : runs 0xDC880000 loadBase
    (fun t => decide (readReg t 8 = 0x1122334455667788)) = true := by decide

/-- Section 5, row 15. -/
theorem test_lwl_1 : runs 0x88890001 (setRegs [(9, 0xAABBCCDD)] loadBase)
    (fun t => decide (readReg t 9 = 0x223344DD)) = true := by decide

/-- Section 5, row 16. -/
theorem test_lwl_2 : runs 0x88890002 (setRegs [(9, 0xAABBCCDD)] loadBase)
    (fun t => decide (readReg t 9 = 0x3344CCDD)) = true := by decide

/-- Section 5, row 21. -/
theorem test_lwr_1 : runs 0x98890003 (setRegs [(9, 0xAABBCCDD)] loadBase)
    (fun t => decide (readReg t 9 = 0x11223344)) = true := by decide

/-- Section 5, row 23. -/
theorem test_ldl_1 : runs 0x68890003 (setRegs [(9, 0x0)] loadBase)
    (fun t => decide (readReg t 9 = 0x4455667788000000)) = true := by decide

/-- Section 5, row 24. -/
theorem test_ldr_1 : runs 0x6C890003 (setRegs [(9, 0x0)] loadBase)
    (fun t => decide (readReg t 9 = 0x11223344)) = true := by decide

/-- Section 5, row 26. -/
theorem test_sb_1 : runs 0xA0890001 loadBase
    (fun t => decide (t.mem.readBE 0x00000100 4 = 0x11DD3344)) = true := by decide

/-- Section 5, row 28. -/
theorem test_sh_1 : runs 0xA4890003 loadBase
    (fun t => decide (t.mem.readBE 0x00000100 4 = 0x1122CCDD)) = true := by decide

/-- Section 5, row 30. -/
theorem test_sw_1 : runs 0xAC890005 loadBase
    (fun t => decide (t.mem.readBE 0x00000104 4 = 0xAABBCCDD)) = true := by decide

/-- Section 5, row 31. -/
theorem test_sd_1 : runs 0xFC890000 (setRegs [(9, 0x102030405060708)] loadBase)
    (fun t => decide (t.mem.readBE 0x00000100 4 = 0x1020304) && decide (t.mem.readBE 0x00000104 4 = 0x5060708)) = true := by decide

/-- Section 5, row 33. -/
theorem test_swl_1 : runs 0xA8890001 (setRegs [(9, 0xAABBCCDD)] loadBase)
    (fun t => decide (t.mem.readBE 0x00000100 4 = 0x11AABBCC)) = true := by decide

/-- Section 5, row 37. -/
theorem test_swr_1 : runs 0xB8890001 (setRegs [(9, 0xAABBCCDD)] loadBase)
    (fun t => decide (t.mem.readBE 0x00000100 4 = 0xCCDD3344)) = true := by decide

/-- Section 5, row 40. -/
theorem test_sdl_1 : runs 0xB0890006 (setRegs [(9, 0x102030405060708)] loadBase)
    (fun t => decide (t.mem.readBE 0x00000104 4 = 0x55660102)) = true := by decide

/-- Section 5, row 41. -/
theorem test_sdr_1 : runs 0xB4890001 (setRegs [(9, 0x102030405060708)] loadBase)
    (fun t => decide (t.mem.readBE 0x00000100 4 = 0x7083344)) = true := by decide

/-- Section 5, row 42. -/
theorem test_ll_1 : runs 0xC0880000 loadBase
    (fun t => decide (readReg t 8 = 0x11223344) && decide (t.cp0.llAddr = 0x10) && t.llbit == true) = true := by decide

/-- Section 5, row 43. -/
theorem test_sc_1 : runs 0xE0890004 (setLLbit true (setRegs [(9, 0x9)] loadBase))
    (fun t => decide (readReg t 9 = 0x1) && decide (t.mem.readBE 0x00000104 4 = 0x9)) = true := by decide

/-- Section 5, row 44. -/
theorem test_sc_2 : runs 0xE0890004 (setLLbit false (setRegs [(9, 0x9)] loadBase))
    (fun t => decide (readReg t 9 = 0x0)) = true := by decide

/-- Section 5, row 45. -/
theorem test_lld_1 : runs 0xD0880000 loadBase
    (fun t => decide (readReg t 8 = 0x1122334455667788) && decide (t.cp0.llAddr = 0x10) && t.llbit == true) = true := by decide

/-- Section 5, row 46. -/
theorem test_scd_1 : runs 0xF0890000 (setLLbit true (setRegs [(9, 0x102030405060708)] loadBase))
    (fun t => decide (readReg t 9 = 0x1) && decide (t.mem.readBE 0x00000100 4 = 0x1020304) && decide (t.mem.readBE 0x00000104 4 = 0x5060708)) = true := by decide

/-- Section 5, row 50. -/
theorem test_sw_2 : refuses 0xAC890000 (setRegs [(4, 0xFFFFFFFFB0000000)] loadBase) .romWrite = true := by decide

/-- Section 5, row 51. -/
theorem test_lb_2 : refuses 0x80880000 (setRegs [(4, 0xFFFFFFFFA4300004)] loadBase) .deviceWidth = true := by decide

/-- Section 6, row 1. -/
theorem test_syscall_1 : runs 0x0000000C (setStatus 0x400004 base)
    (fun t => decide (t.pc = 0xFFFFFFFFBFC00380) && decide (t.cp0.status = 0x400006) && decide (t.stepFault = some .sys) && decide (t.cp0.epc = 0xFFFFFFFF80001000)) = true := by decide

/-- Section 6, row 3. -/
theorem test_syscall_2 : runs 0x0000000C (setCp0 (fun c => { c with epc := 0x1234 }) (setStatus 0x400002 base))
    (fun t => decide (t.pc = 0xFFFFFFFFBFC00380) && decide (t.stepFault = some .sys)) = true := by decide

/-- Section 6, row 4. -/
theorem test_break_1 : runs 0x0000000D base
    (fun t => decide (t.pc = 0xFFFFFFFFBFC00380) && decide (t.cp0.status = 0x400006) && decide (t.stepFault = some .bp) && decide (t.cp0.epc = 0xFFFFFFFF80001000)) = true := by decide

/-- Section 6, row 5. -/
theorem test_teq_1 : runs 0x01090034 (setRegs [(8, 0x5), (9, 0x5)] base)
    (fun t => decide (t.pc = 0xFFFFFFFFBFC00380) && decide (t.cp0.status = 0x400006) && decide (t.stepFault = some .tr) && decide (t.cp0.epc = 0xFFFFFFFF80001000)) = true := by decide

/-- Section 6, row 6. -/
theorem test_tne_1 : runs 0x01090036 (setRegs [(8, 0x5), (9, 0x5)] base)
    (fun t => decide (t.pc = 0xFFFFFFFF80001004)) = true := by decide

/-- Section 6, row 7. -/
theorem test_tge_1 : runs 0x01090030 (setRegs [(8, 0xFFFFFFFFFFFFFFFF), (9, 0x1)] base)
    (fun t => decide (t.pc = 0xFFFFFFFF80001004)) = true := by decide

/-- Section 6, row 8. -/
theorem test_tgeu_1 : runs 0x01090031 (setRegs [(8, 0xFFFFFFFFFFFFFFFF), (9, 0x1)] base)
    (fun t => decide (t.pc = 0xFFFFFFFFBFC00380) && decide (t.cp0.status = 0x400006) && decide (t.stepFault = some .tr) && decide (t.cp0.epc = 0xFFFFFFFF80001000)) = true := by decide

/-- Section 6, row 9. -/
theorem test_tlt_1 : runs 0x01090032 (setRegs [(8, 0xFFFFFFFFFFFFFFFF), (9, 0x1)] base)
    (fun t => decide (t.pc = 0xFFFFFFFFBFC00380) && decide (t.cp0.status = 0x400006) && decide (t.stepFault = some .tr) && decide (t.cp0.epc = 0xFFFFFFFF80001000)) = true := by decide

/-- Section 6, row 10. -/
theorem test_tltu_1 : runs 0x01090033 (setRegs [(8, 0xFFFFFFFFFFFFFFFF), (9, 0x1)] base)
    (fun t => decide (t.pc = 0xFFFFFFFF80001004)) = true := by decide

/-- Section 6, row 11. -/
theorem test_teqi_1 : runs 0x050CFFFF (setRegs [(8, 0xFFFFFFFFFFFFFFFF)] base)
    (fun t => decide (t.pc = 0xFFFFFFFFBFC00380) && decide (t.cp0.status = 0x400006) && decide (t.stepFault = some .tr) && decide (t.cp0.epc = 0xFFFFFFFF80001000)) = true := by decide

/-- Section 6, row 12. -/
theorem test_tnei_1 : runs 0x050EFFFF (setRegs [(8, 0xFFFFFFFFFFFFFFFF)] base)
    (fun t => decide (t.pc = 0xFFFFFFFF80001004)) = true := by decide

/-- Section 6, row 13. -/
theorem test_tgei_1 : runs 0x05080000 (setRegs [(8, 0x0)] base)
    (fun t => decide (t.pc = 0xFFFFFFFFBFC00380) && decide (t.cp0.status = 0x400006) && decide (t.stepFault = some .tr) && decide (t.cp0.epc = 0xFFFFFFFF80001000)) = true := by decide

/-- Section 6, row 14. -/
theorem test_tgeiu_1 : runs 0x0509FFFF (setRegs [(8, 0x5)] base)
    (fun t => decide (t.pc = 0xFFFFFFFF80001004)) = true := by decide

/-- Section 6, row 15. -/
theorem test_tlti_1 : runs 0x050A0000 (setRegs [(8, 0xFFFFFFFFFFFFFFFF)] base)
    (fun t => decide (t.pc = 0xFFFFFFFFBFC00380) && decide (t.cp0.status = 0x400006) && decide (t.stepFault = some .tr) && decide (t.cp0.epc = 0xFFFFFFFF80001000)) = true := by decide

/-- Section 6, row 16. -/
theorem test_tltiu_1 : runs 0x050BFFFF (setRegs [(8, 0x5)] base)
    (fun t => decide (t.pc = 0xFFFFFFFFBFC00380) && decide (t.cp0.status = 0x400006) && decide (t.stepFault = some .tr) && decide (t.cp0.epc = 0xFFFFFFFF80001000)) = true := by decide

/-- Section 6, row 17. -/
theorem test_sync_1 : runs 0x0000000F base
    (fun t => decide (t.pc = 0xFFFFFFFF80001004)) = true := by decide

/-- Section 6, row 18. -/
theorem test_mfc0_1 : runs 0x40086000 (setStatus 0x400004 base)
    (fun t => decide (readReg t 8 = 0x400004)) = true := by decide

/-- Section 6, row 23. -/
theorem test_mfc0_2 : runs 0x40086800 (setCp0 (fun c => { c with cause := 0x100 }) ((fun s : State => { s with timer := { s.timer with pending := true } }) base))
    (fun t => decide (readReg t 8 = 0x8100)) = true := by decide

/-- Section 6, row 24. -/
theorem test_mtc0_1 : runs 0x40886000 (setRegs [(8, 0xFF01)] base)
    (fun t => decide (t.cp0.status = 0xFF01)) = true := by decide

/-- Section 6, row 25. -/
theorem test_mtc0_2 : refuses 0x40886000 (setRegs [(8, 0xFFFFFFFF)] base) .unpredictableMode = true := by decide

/-- Section 6, row 35. -/
theorem test_dmfc0_1 : runs 0x40287000 (setCp0 (fun c => { c with epc := 0x100000000 }) base)
    (fun t => decide (readReg t 8 = 0x100000000)) = true := by decide

/-- Section 6, row 37. -/
theorem test_dmtc0_1 : runs 0x40A87000 (setRegs [(8, 0x100000000)] base)
    (fun t => decide (t.cp0.epc = 0x100000000)) = true := by decide

/-- Section 6, row 38. -/
theorem test_dmtc0_2 : refuses 0x40A86000 (setRegs [(8, 0x0)] base) .dmtc0To32BitRegister = true := by decide

/-- Section 6, row 42. -/
theorem test_tlbwi_1 : refuses 0x42000002 (setCp0 (fun c => { c with pageMask := 0x4000 }) (setCp0 (fun c => { c with index := 0x1 }) base)) .illegalPageMask = true := by decide

/-- Section 6, row 43. -/
theorem test_tlbwi_2 : refuses 0x42000002 (setCp0 (fun c => { c with index := 0x28 }) base) .tlbIndexOutOfRange = true := by decide

/-- Section 6, row 45. -/
theorem test_tlbwr_1 : refuses 0x42000006 (setCp0 (fun c => { c with wired := 0x28 }) base) .wiredOutOfRange = true := by decide

/-- Section 6, row 48. -/
theorem test_tlbp_1 : refuses 0x42000008 (setCp0 (fun c => { c with entryHi := 0x0 }) base) .tlbMultipleMatch = true := by decide

/-- Section 6, row 50. -/
theorem test_eret_1 : runs 0x42000018 (setLLbit true (setCp0 (fun c => { c with errorEpc := 0xFFFFFFFFBFC00010 }) (setStatus 0x400004 base)))
    (fun t => decide (t.pc = 0xFFFFFFFFBFC00010) && decide (t.cp0.status = 0x400000) && t.llbit == false) = true := by decide

/-- Section 6, row 51. -/
theorem test_eret_2 : runs 0x42000018 (setCp0 (fun c => { c with epc := 0xFFFFFFFF80000104 }) (setStatus 0xFF03 base))
    (fun t => decide (t.pc = 0xFFFFFFFF80000104) && decide (t.cp0.status = 0xFF01)) = true := by decide

/-- Section 6, row 54. -/
theorem test_cache_1 : runs 0xBC900000 (setRegs [(4, 0xFFFFFFFF80000000)] base)
    (fun t => decide (t.pc = 0xFFFFFFFF80001004)) = true := by decide

/-- Section 6, row 57. -/
theorem test_cache_2 : refuses 0xBC890000 (setCp0 (fun c => { c with tagLo := 0xC0 }) base) .tagState = true := by decide

/-- Section 8, row 1. -/
theorem test_cop1_1 : runs 0x46000000 base
    (fun t => decide (t.pc = 0xFFFFFFFFBFC00380) && decide (t.cp0.status = 0x400006) && decide (t.cp0.cause = 0x1000002C) && decide (t.cp0.epc = 0xFFFFFFFF80001000)) = true := by decide

/-- Section 8, row 2. -/
theorem test_cop1_2 : refuses 0x46000000 (setStatus 0x20400004 base) .fpuNotModelled = true := by decide

/-- Section 8, row 3. -/
theorem test_lwc1_1 : runs 0xC4820000 base
    (fun t => decide (t.pc = 0xFFFFFFFFBFC00380) && decide (t.cp0.status = 0x400006) && decide (t.cp0.cause = 0x1000002C) && decide (t.cp0.epc = 0xFFFFFFFF80001000)) = true := by decide

/-- Section 8, row 5. -/
theorem test_cop2_1 : runs 0x4A000000 base
    (fun t => decide (t.pc = 0xFFFFFFFFBFC00380) && decide (t.cp0.status = 0x400006) && decide (t.cp0.cause = 0x2000002C) && decide (t.cp0.epc = 0xFFFFFFFF80001000)) = true := by decide

/-- Section 8, row 6. -/
theorem test_cop2_2 : refuses 0x4A000000 (setStatus 0x40400004 base) .noCoprocessor2 = true := by decide

/-- Section 8, row 7. -/
theorem test_swc2_1 : runs 0xE8820000 base
    (fun t => decide (t.pc = 0xFFFFFFFFBFC00380) && decide (t.cp0.status = 0x400006) && decide (t.cp0.cause = 0x2000002C) && decide (t.cp0.epc = 0xFFFFFFFF80001000)) = true := by decide

/-! ## Devices and host operations, from section 9 of 95_test_vectors.md -/

/-- Rows 1 and 5: Count passes through Compare. -/
theorem test_timer_passes :
    (timerTick Params.default 100 { Cp0.reset with count := 0xFFFFFFF0, compare := 5 } Timer.reset).1.count = 0x22 ∧
    (timerTick Params.default 100 { Cp0.reset with count := 0xFFFFFFF0, compare := 5 } Timer.reset).2.pending = true ∧
    (timerTick Params.default 2 { Cp0.reset with count := 9, compare := 10 } Timer.reset).2.pending = true := by decide

/-- Rows 2 and 3: Count does not reach Compare. -/
theorem test_timer_waits :
    (timerTick Params.default 100 { Cp0.reset with count := 0xFFFFFFF0, compare := 0x100 } Timer.reset).2.pending = false ∧
    (timerTick Params.default 1 { Cp0.reset with count := 10, compare := 10 } Timer.reset).2 = { pending := false, countFrac := 1 } := by decide

/-- Rows 6 and 7: the VI frame and the half-line. -/
theorem test_vi_tick :
    (tickDevices 1562500 State.reset).vi.cycles = 0 ∧ (tickDevices 1562500 State.reset).mi.intr = 8 ∧
    (tickDevices 1562500 State.reset).cp0.count = 781250 ∧ viCurrent Params.default (tickDevices 781250 State.reset).vi = 262 := by decide

/-- Rows 9 to 13: writes of MI_MASK and MI_MODE. -/
theorem test_mi_writes :
    miWrite Mi.reset 12 0x80 = .ok { Mi.reset with mask := 8 } ∧ miWrite { Mi.reset with mask := 8 } 12 0x40 = .ok Mi.reset ∧
    miWrite Mi.reset 12 0xC0 = .error .miSetAndClear ∧
    (miWrite Mi.reset 0 0x2115).map (fun m => miRead Params.default m 0) = .ok 0x295 ∧
    miWrite { Mi.reset with intr := 0x28 } 0 0x800 = .ok { Mi.reset with intr := 8 } := by decide

/-- Row 14: the VI acknowledgement. -/
theorem test_vi_acknowledge : viWrite Vi.reset { Mi.reset with intr := 8 } 0x10 0x1234 = (Vi.reset, Mi.reset) := by decide

/-- Rows 15 and 17: interrupts taken, the second in a delay slot. -/
theorem test_interrupt_taken :
    (interruptCheck { setStatus 0x401 base with mi := { Mi.reset with intr := 8, mask := 8 } }).cp0.status = 0x403 ∧
    (interruptCheck { setStatus 0x401 base with mi := { Mi.reset with intr := 8, mask := 8 } }).pc = 0xFFFFFFFF80000180 ∧
    (interruptCheck { setStatus 0x8001 base with
      pc := 0xFFFFFFFF80001004
      inDelaySlot := true
      timer := { pending := true, countFrac := 0 } }).cp0.epc = 0xFFFFFFFF80001000 := by decide

/-- Row 19: pixels of a 16-bit framebuffer. -/
theorem test_framebuffer :
    (fun s : State => (pixel s 0 0, pixel s 1 0))
      { base with
        vi := { reg := ((Vi.reset.reg.set 0 2).set 1 0x1000).set 2 320, cycles := 0 }
        mem := Memory.writeBE [] 0x1000 fullMask 4 0xF80107C0 } = (0xFF0000FF, 0x00FF0000) := by decide

/-- Rows 22 and 24: loadImage. -/
theorem test_load_image :
    loadImage [] (create Params.default) = .error .empty ∧
    (loadImage [0x01, 0x23, 0x45, 0x67] (create Params.default)).map (fun s => (s.mem.readBE 0x10000000 4, s.romLen)) =
      .ok (0x01234567, 4) := by decide

/-- The machine after reset is the one that creation, start and reset make (70_reset_and_hazards.md R317, R318, R324). -/
theorem test_reset : State.reset = resetOp (start (create Params.default)) := rfl

/-! ## Witnesses: for every statement with hypotheses, states and operands that meet them -/

/-- Kernel mode with EXL = ERL = BEV = 0. -/
def kernel : State := setStatus 0 loadBase

/-- Kernel mode by EXL. -/
def inException : State := setStatus 2 loadBase

/-- Supervisor mode. -/
def supervisor : State := setStatus 8 loadBase

/-- User mode, one mapped page. -/
def user : State := userize loadBase

/-- Kernel mode in a delay slot. -/
def inSlot : State := { kernel with inDelaySlot := true }

theorem witness_EncodeOfDecode : Decode.decode 0x8D090004 = .instr (.lw 9 4 8) := by decide

theorem witness_ExecuteByDecoding :
    inSlot.inDelaySlot = true ∧ (Decode.decode 0x42000018).isControl = true ∧ (Decode.decode 0x01095020).isControl = false ∧
    kernel.inDelaySlot = false ∧ Decode.decode 0x41000000 = .unmodelled ∧
    Decode.decode 0x00200000 = .nonzeroReserved (.sll 0 0 0) ∧ Decode.decode 0x70000000 = .reserved false ∧
    Decode.decode 0x42000003 = .reserved true := by decide

/-- Reserved words inside and outside primary opcode 16. -/
theorem witness_ReservedWords : Decode.decode 0x42000003 = .reserved true ∧ Decode.decode 0x70000000 = .reserved false ∧
    Decode.decode 0x41000000 = .unmodelled := by decide

/-- ADD stored where the machine after reset fetches. -/
def placed : State := State.reset.withFetchWord 32 0x01095020

theorem witness_StepRunsDecoded :
    placed.refused = none ∧ canStep (openFrame placed) = true ∧ placed.extActive = false ∧
    externalAgents (openFrame placed) = .ok (openFrame placed) ∧
    fetch (beginStep (openFrame placed)) = .ok (0x01095020, beginStep (openFrame placed)) ∧
    Decode.decode 0x01095020 = .instr (.add 10 8 9) ∧ (beginStep (openFrame placed)).inDelaySlot = false ∧
    (Instr.add 10 8 9).isControl = false := ⟨rfl, rfl, rfl, rfl, rfl, by decide, rfl, rfl⟩

theorem witness_StepAccount :
    ∃ t : State, t.params.granularity = .frame ∧ t.core = .running ∧ t.refused = none ∧
      t.frame.fc + t.params.cpi + 1 = t.params.budget :=
  ⟨{ kernel with frame := { Frame.initial with fc := 1562498 } }, by decide⟩

/-- States whose pc is misaligned, in RAM, and in the MI. -/
theorem witness_FetchRules :
    ({ kernel with pc := 0xFFFFFFFF80001001 } : State).pc.extractLsb' 0 2 ≠ 0 ∧ statusEXL kernel = false ∧
    kernel.inDelaySlot = false ∧ kernel.pc.extractLsb' 0 2 = 0 ∧
    translate kernel.pc .fetch kernel = .ok (0x1000, true) ∧ regionKind kernel.params 0x1000 = .ram ∧ kernel.params.cacheCheck = false ∧
    translate 0xFFFFFFFFA4300000 .fetch kernel = .ok (0x04300000, false) ∧ regionKind kernel.params 0x04300000 = .mi := by decide

/-- The checker on, with every set empty. -/
def unready : State := { kernel with params := { kernel.params with cacheCheck := true } }

/-- A state with its pc elsewhere. -/
def atPc (pc : DWord) (s : State) : State := { s with pc := pc, nextPc := pc + 4 }

/-- Aligned pcs whose translation raises, in each way, and is refused. -/
theorem witness_FetchRules_raises :
    translate 0xFFFFFFFF80000000 .fetch (atPc 0xFFFFFFFF80000000 user) =
      .error (.raise (.addressError false 0xFFFFFFFF80000000) (atPc 0xFFFFFFFF80000000 user)) ∧
    translate 0x00402000 .fetch (atPc 0x00402000 user) =
      .error (.raise (.tlbRefill false 0x00402000) (atPc 0x00402000 user)) ∧
    translate 0x00400000 .fetch (atPc 0x00400000 { user with tlb := user.tlb.set 5 { entry5 with even := ⟨0, 2, true, false⟩ } }) =
      .error (.raise (.tlbInvalid false 0x00400000)
        (atPc 0x00400000 { user with tlb := user.tlb.set 5 { entry5 with even := ⟨0, 2, true, false⟩ } })) ∧
    fetch (atPc 0x0000000100000000 kernel) = .error (.refuse .nonSext32Address) :=
  ⟨by decide, by decide, by decide, by decide⟩

/-- Fetches from SP memory, from the last word of an image and past it, from the PIF ROM absent and present, and from an unmapped
address; and from RAM with the checker on, refused and answered. -/
theorem witness_FetchRules_regions :
    (translate 0xFFFFFFFFA4001FFC .fetch kernel = .ok (0x04001FFC, false) ∧ regionKind kernel.params 0x04001FFC = .spMem) ∧
    (translate 0xFFFFFFFFB0000000 .fetch kernel = .ok (0x10000000, false) ∧ regionKind kernel.params 0x10000000 = .cartRom ∧
      kernel.romLen = 0) ∧
    (fetch (atPc 0xFFFFFFFFB0000000 { kernel with romLen := 4, mem := Memory.writeBE kernel.mem 0x10000000 fullMask 4 0x24080001 })).toOption.map
      Prod.fst = some 0x24080001 ∧
    (fetch (atPc 0xFFFFFFFFB0000000 { kernel with romLen := 3 })).toOption.map Prod.fst = some 0 ∧
    (fetch (atPc 0xFFFFFFFFBFC00000 kernel)).toOption.map Prod.fst = some 0 ∧
    (fetch ((atPc 0xFFFFFFFFBFC00000 kernel).withFetchWord 32 0x24080001)).toOption.map Prod.fst = some 0x24080001 ∧
    (translate 0xFFFFFFFFA4900000 .fetch kernel = .ok (0x04900000, false) ∧ regionKind kernel.params 0x04900000 = .unmapped) ∧
    cacheCheck 0x1000 .fetch true unready = .error .cacheState ∧ cacheCheck 0x1000 .fetch false unready = .ok unready := by decide

theorem witness_DelaySlotThenTarget :
    (Instr.ori 8 8 1).isControl = false ∧ kernel.stepFault = none ∧
    (∃ t, exec (.ori 8 8 1) kernel = .next t ∧ t.stepFault = none) ∧
    (∃ u, exec (.ori 8 8 1) (advance (.taken 0xFFFFFFFF80002000) kernel) = .next u ∧ u.stepFault = none) :=
  ⟨rfl, rfl, ⟨_, rfl, rfl⟩, ⟨_, rfl, rfl⟩⟩

/-- Registers 1 and 31 are not r0; the sum 0x7FFFFFFF + 1 overflows into r0. -/
theorem witness_RegisterFile :
    (1 : RegIdx) ≠ 0 ∧ (31 : RegIdx) ≠ 1 ∧ words2 (setRegs [(8, 0x7FFFFFFF), (9, 1)] kernel) 8 9 = true ∧
    fits32 ((low32 (readReg (setRegs [(8, 0x7FFFFFFF), (9, 1)] kernel) 8)).toInt +
      (low32 (readReg (setRegs [(8, 0x7FFFFFFF), (9, 1)] kernel) 9)).toInt) = false := by decide

theorem witness_OnlyDestinationsChange :
    (∃ t, exec (.ori 8 8 1) kernel = .next t) ∧ (9 : RegIdx) ∉ destRegs (.ori 8 8 1) ∧
    writesHi (.ori 8 8 1) = false ∧ writesLo (.mthi 8) = false ∧ (∃ t, exec (.mthi 8) kernel = .next t) :=
  ⟨⟨_, rfl⟩, by decide, rfl, rfl, ⟨_, rfl⟩⟩

/-- No word has a value outside the signed 32-bit range. -/
theorem no_word (t : Int) (h : t < -2 ^ 31 ∨ 2 ^ 31 ≤ t) : ¬ ∃ r : Word, r.toInt = t := by
  rintro ⟨r, rfl⟩
  have := r.le_two_mul_toInt
  have := r.two_mul_toInt_lt
  omega

/-- No doubleword has a value outside the signed 64-bit range. -/
theorem no_dword (t : Int) (h : t < -2 ^ 63 ∨ 2 ^ 63 ≤ t) : ¬ ∃ r : DWord, r.toInt = t := by
  rintro ⟨r, rfl⟩
  have := r.le_two_mul_toInt
  have := r.two_mul_toInt_lt
  omega

/-- r8 and r9 as the add and subtract statements need them. -/
def pair (x y : DWord) : State := setRegs [(8, x), (9, y)] kernel

/-- The largest sum that fits and the smallest that does not, for the sum, the difference and the immediate form. -/
theorem witness_WordAddSub :
    isSext32 (readReg (pair 0x7FFFFFFE 1) 8) = true ∧ isSext32 (readReg (pair 0x7FFFFFFE 1) 9) = true ∧
    (0x7FFFFFFF : Word).toInt =
      (low32 (readReg (pair 0x7FFFFFFE 1) 8)).toInt + (low32 (readReg (pair 0x7FFFFFFE 1) 9)).toInt ∧
    (0x7FFFFFFF : Word).toInt = (low32 (readReg (pair 0x7FFFFFFE 1) 8)).toInt + (1 : BitVec 16).toInt ∧
    (0x7FFFFFFD : Word).toInt =
      (low32 (readReg (pair 0x7FFFFFFE 1) 8)).toInt - (low32 (readReg (pair 0x7FFFFFFE 1) 9)).toInt ∧
    (¬ ∃ r : Word, r.toInt =
      (low32 (readReg (pair 0x7FFFFFFF 1) 8)).toInt + (low32 (readReg (pair 0x7FFFFFFF 1) 9)).toInt) ∧
    (¬ ∃ r : Word, r.toInt = (low32 (readReg (pair 0x7FFFFFFF 1) 8)).toInt + (1 : BitVec 16).toInt) ∧
    (¬ ∃ r : Word, r.toInt =
      (low32 (readReg (pair 0xFFFFFFFF80000000 1) 8)).toInt - (low32 (readReg (pair 0xFFFFFFFF80000000 1) 9)).toInt) :=
  ⟨by decide, by decide, by decide, by decide, by decide, no_word _ (by decide), no_word _ (by decide), no_word _ (by decide)⟩

theorem witness_DoubleAddSub :
    ops64Enabled kernel = true ∧ ops64Enabled (pair 1 1) = true ∧
    (2 : DWord).toInt = (readReg (pair 1 1) 8).toInt + (readReg (pair 1 1) 9).toInt ∧
    (0 : DWord).toInt = (readReg (pair 1 1) 8).toInt - (readReg (pair 1 1) 9).toInt ∧
    (2 : DWord).toInt = (readReg (pair 1 1) 8).toInt + (1 : BitVec 16).toInt ∧
    (¬ ∃ r : DWord, r.toInt =
      (readReg (pair 0x7FFFFFFFFFFFFFFF 1) 8).toInt + (readReg (pair 0x7FFFFFFFFFFFFFFF 1) 9).toInt) ∧
    (¬ ∃ r : DWord, r.toInt = (readReg (pair 0x7FFFFFFFFFFFFFFF 1) 8).toInt + (1 : BitVec 16).toInt) ∧
    (¬ ∃ r : DWord, r.toInt =
      (readReg (pair 0x8000000000000000 1) 8).toInt - (readReg (pair 0x8000000000000000 1) 9).toInt) :=
  ⟨by decide, by decide, by decide, by decide, by decide, no_dword _ (by decide), no_dword _ (by decide),
    no_dword _ (by decide)⟩

theorem witness_ShiftResults : isSext32 (readReg (pair 0xFFFFFFFF80000000 33) 8) = true ∧
    ops64Enabled (pair 0xFFFFFFFF80000000 33) = true := by decide

theorem witness_MultiplyResults : hiLoFree (pair 7 0xFFFFFFFFFFFFFFFE) ∧ words2 (pair 7 0xFFFFFFFFFFFFFFFE) 8 9 = true ∧
    ops64Enabled (pair 7 0xFFFFFFFFFFFFFFFE) = true := ⟨⟨rfl, rfl⟩, by decide, by decide⟩

/-- The ordinary and the overflowing division. -/
theorem witness_DivideResults :
    hiLoFree (pair 7 0xFFFFFFFFFFFFFFFE) ∧ words2 (pair 7 0xFFFFFFFFFFFFFFFE) 8 9 = true ∧
    low32 (readReg (pair 7 0xFFFFFFFFFFFFFFFE) 9) ≠ 0 ∧
    ops64Enabled (pair 7 0xFFFFFFFFFFFFFFFE) = true ∧ readReg (pair 7 0xFFFFFFFFFFFFFFFE) 9 ≠ 0 ∧
    words2 (pair 0xFFFFFFFF80000000 0xFFFFFFFFFFFFFFFF) 8 9 = true ∧
    low32 (readReg (pair 0xFFFFFFFF80000000 0xFFFFFFFFFFFFFFFF) 8) = 0x80000000 ∧
    low32 (readReg (pair 0xFFFFFFFF80000000 0xFFFFFFFFFFFFFFFF) 9) = 0xFFFFFFFF ∧
    readReg (pair 0x8000000000000000 0xFFFFFFFFFFFFFFFF) 8 = 0x8000000000000000 ∧
    readReg (pair 0x8000000000000000 0xFFFFFFFFFFFFFFFF) 9 = 0xFFFFFFFFFFFFFFFF := by
  refine ⟨⟨rfl, rfl⟩, ?_⟩
  decide

theorem witness_UndefinedOperands :
    isSext32 (readReg (pair 0x80000000 0) 8) = false ∧ words2 (pair 0x80000000 0) 8 9 = false ∧
    hiLoFree (pair 0x80000000 0) ∧ words2 (pair 7 0) 8 9 = true ∧ low32 (readReg (pair 7 0) 9) = 0 ∧ hiLoFree (pair 7 0) ∧
    ops64Enabled (pair 7 0) = true ∧ readReg (pair 7 0) 9 = 0 :=
  ⟨by decide, by decide, ⟨rfl, rfl⟩, by decide, by decide, ⟨rfl, rfl⟩, by decide, by decide⟩

/-- The hazard counters at 0, at the boundary 1 and at the window's start 3. -/
theorem witness_HiLoMovesAndHazard :
    kernel.hiReadAge = 0 ∧ kernel.loReadAge = 0 ∧ ops64Enabled { kernel with hiReadAge := 1, loReadAge := 1 } = true ∧
    ({ kernel with hiReadAge := 1, loReadAge := 1 } : State).hiReadAge > 0 ∧
    ({ kernel with hiReadAge := 3, loReadAge := 3 } : State).loReadAge = 3 ∧
    ({ kernel with hiReadAge := 3, loReadAge := 3 } : State).hiReadAge = 3 := by decide

theorem witness_BranchResults :
    (0xFFFFFFFF80001010 : DWord) = kernel.pc + 4 + ((3 : BitVec 16) ++ (0 : BitVec 2)).signExtend 64 := by decide

theorem witness_LinkingBranchResults :
    (0xFFFFFFFF80001000 : DWord) = kernel.pc + 4 + ((0xFFFF : BitVec 16) ++ (0 : BitVec 2)).signExtend 64 ∧
    (31 : RegIdx) = 31 ∧ (30 : RegIdx) ≠ 31 := by decide

theorem witness_JumpResults :
    (0xFFFFFFFF80000400 : DWord).extractLsb' 28 36 = (kernel.pc + 4).extractLsb' 28 36 ∧
    (0xFFFFFFFF80000400 : DWord).extractLsb' 2 26 = 0x100 ∧ (0xFFFFFFFF80000400 : DWord).extractLsb' 0 2 = 0 ∧
    (9 : RegIdx) ≠ 8 := by decide

/-- The first and the last address of each segment, in the modes of each clause. -/
theorem witness_SegmentTranslation :
    isSext32 0x80000000 = false ∧ isSext32 0xFFFFFFFF80000000 = true ∧
    currentMode (setStatus 0x02000010 kernel) = .user ∧ statusRE (setStatus 0x02000010 kernel) = true ∧
    currentMode user = .user ∧ statusRE user = false ∧ 0x80000000 ≤ (low32 0xFFFFFFFF80000000).toNat ∧
    currentMode supervisor = .supervisor ∧ (low32 0xFFFFFFFFBFFFFFFF).toNat < 0xC0000000 ∧
    0xE0000000 ≤ (low32 0xFFFFFFFFE0000000).toNat ∧ isSext32 0xFFFFFFFFE0000000 = true ∧
    currentMode kernel = .kernel ∧ (low32 0xFFFFFFFF9FFFFFFF).toNat < 0xA0000000 ∧
    0xA0000000 ≤ (low32 0xFFFFFFFFA0000000).toNat ∧ statusERL base = true ∧ isSext32 0x7FFFFFFF = true ∧
    (low32 0x7FFFFFFF).toNat < 0x80000000 ∧ statusERL user = false ∧ statusERL kernel = false ∧ currentMode supervisor ≠ .user ∧
    isSext32 0xFFFFFFFFC0000000 = true ∧ 0xC0000000 ≤ (low32 0xFFFFFFFFC0000000).toNat ∧
    isSext32 0xFFFFFFFFDFFFFFFF = true ∧ (low32 0xFFFFFFFFDFFFFFFF).toNat < 0xE0000000 := by decide

/-- Entry 5 with another mask, even page and odd page. -/
def withEntry5 (m : BitVec 12) (p q : TlbPage) : State :=
  { user with tlb := user.tlb.set 5 { entry5 with mask := m, even := p, odd := q } }

/-- An address no entry matches, one that 31 entries match, and one that only entry 5 matches. -/
theorem witness_TlbTranslation_matches :
    (∀ i : Fin 32, (user.tlb[i]).matchesAddr 0x00800000 (user.cp0.entryHi.extractLsb' 0 8) = false) ∧
    (user.tlb[(0 : Fin 32)]).matchesAddr 0 (user.cp0.entryHi.extractLsb' 0 8) = true ∧
    (user.tlb[(1 : Fin 32)]).matchesAddr 0 (user.cp0.entryHi.extractLsb' 0 8) = true ∧
    (user.tlb[(5 : Fin 32)]).matchesAddr 0x00401FFF (user.cp0.entryHi.extractLsb' 0 8) = true ∧
    (∀ j : Fin 32, j ≠ 5 → (user.tlb[j]).matchesAddr 0x00401FFF (user.cp0.entryHi.extractLsb' 0 8) = false) ∧
    (user.tlb[(5 : Fin 32)]).mask.toNat = 4 ^ 0 - 1 ∧ (user.tlb[(5 : Fin 32)]).odd.v = true ∧
    (user.tlb[(5 : Fin 32)]).odd.d = true ∧ (user.tlb[(5 : Fin 32)]).odd.pfn.toNat % 4 ^ 0 = 0 := by decide

/-- Pages that are invalid, not writable, and misaligned for the page size 16 KB. -/
theorem witness_TlbTranslation_pages :
    ((withEntry5 0 ⟨0, 2, true, false⟩ ⟨0, 2, true, false⟩).tlb[(5 : Fin 32)]).even.v = false ∧
    ((withEntry5 0 ⟨0, 2, false, true⟩ ⟨0, 2, false, true⟩).tlb[(5 : Fin 32)]).even.d = false ∧
    ((withEntry5 3 ⟨1, 2, true, true⟩ ⟨1, 2, true, true⟩).tlb[(5 : Fin 32)]).even.pfn.toNat % 4 ^ 1 ≠ 0 ∧
    ((withEntry5 3 ⟨1, 2, true, true⟩ ⟨1, 2, true, true⟩).tlb[(5 : Fin 32)]).mask.toNat = 4 ^ 1 - 1 ∧
    ((withEntry5 3 ⟨1, 2, true, true⟩ ⟨1, 2, true, true⟩).tlb[(5 : Fin 32)]).matchesAddr 0x00400000
      ((withEntry5 3 ⟨1, 2, true, true⟩ ⟨1, 2, true, true⟩).cp0.entryHi.extractLsb' 0 8) = true := by decide

/-- A load of RAM through kseg0, at an offset. -/
theorem witness_LoadResults : reachesRam kernel false (readReg kernel 4 + (3 : BitVec 16).signExtend 64) 0x103 ∧
    ops64Enabled kernel = true ∧ (readReg kernel 4 + (3 : BitVec 16).signExtend 64).toNat % 8 = 3 :=
  ⟨⟨⟨true, by decide⟩, by decide, rfl, by decide⟩, by decide, by decide⟩

/-- The ends of a word and of a doubleword. -/
theorem witness_PartialLoadResults :
    reachesRam kernel false (readReg kernel 4 + (0 : BitVec 16).signExtend 64) 0x100 ∧
    (readReg kernel 4 + (0 : BitVec 16).signExtend 64).toNat % 8 = 0 ∧
    reachesRam kernel false (readReg kernel 4 + (7 : BitVec 16).signExtend 64) 0x107 ∧
    (readReg kernel 4 + (7 : BitVec 16).signExtend 64).toNat % 8 = 7 ∧ 7 % 4 = 3 :=
  ⟨⟨⟨true, by decide⟩, by decide, rfl, by decide⟩, by decide, ⟨⟨true, by decide⟩, by decide, rfl, by decide⟩, by decide, rfl⟩

/-- A store to RAM through kseg0, at an offset. -/
theorem witness_StoreResults_PartialStoreResults : reachesRam kernel true (readReg kernel 4 + (5 : BitVec 16).signExtend 64) 0x105 ∧
    ops64Enabled kernel = true :=
  ⟨⟨⟨true, by decide⟩, by decide, rfl, by decide⟩, by decide⟩

theorem witness_MemoryFrame :
    storeForm (.sw 9 5 4) = some (.word, 5, 4) ∧ (∃ t, exec (.sw 9 5 4) kernel = .next t) ∧
    translate (effAddr kernel 4 5) .store kernel = .ok (0x105, true) ∧
    translate (effAddr user 4 0) .store user = .error (.raise (.addressError true 0xFFFFFFFF80000100) user) ∧
    (∃ t, exec (.sw 9 0 4) user = .next t) ∧
    storeForm (.lw 9 0 4) = none ∧ (∃ t, exec (.lw 9 0 4) kernel = .next t) ∧
    (∃ t, exec (.cache 0x0D 0 4) kernel = .next t) ∧ translate (effAddr kernel 4 0) .load kernel = .ok (0x100, true) :=
  ⟨rfl, ⟨_, rfl⟩, by decide, by decide, ⟨_, rfl⟩, rfl, ⟨_, rfl⟩, ⟨_, rfl⟩, by decide⟩

theorem witness_LoadLinkedStoreConditional :
    reachesRam kernel false (readReg kernel 4 + (0 : BitVec 16).signExtend 64) 0x100 ∧
    reachesRam (setLLbit true kernel) true (readReg (setLLbit true kernel) 4 + (0 : BitVec 16).signExtend 64) 0x100 ∧
    (setLLbit true kernel).llbit = true ∧ ops64Enabled (setLLbit true kernel) = true ∧ kernel.llbit = false ∧
    reachesRam kernel true (readReg kernel 4 + (0 : BitVec 16).signExtend 64) 0x100 :=
  ⟨⟨⟨true, by decide⟩, by decide, rfl, by decide⟩, ⟨⟨true, by decide⟩, by decide, rfl, by decide⟩, rfl, by decide, rfl,
    ⟨⟨true, by decide⟩, by decide, rfl, by decide⟩⟩

/-- The doubleword at physical 0x100 watched for loads and stores. -/
def watched (s : State) : State := setCp0 (fun c => { c with watchLo := 0x103 }) s

theorem witness_DataAccessExceptions :
    translate (effAddr user 4 0) .load user = .error (.raise (.addressError false 0xFFFFFFFF80000100) user) ∧
    translate (effAddr (setRegs [(4, 0x100000000)] kernel) 4 0) .store (setRegs [(4, 0x100000000)] kernel) =
      .error (.refuse .nonSext32Address) ∧
    translate (effAddr (watched kernel) 4 7) .load (watched kernel) = .ok (0x107, true) ∧
    translate (effAddr (watched kernel) 4 0) .store (watched kernel) = .ok (0x100, true) ∧
    (watched kernel).cp0.watchLo.getLsbD 1 = true ∧ (watched kernel).cp0.watchLo.getLsbD 0 = true ∧
    (0x107 : Word).extractLsb' 3 29 = (watched kernel).cp0.watchLo.extractLsb' 3 29 ∧
    (0x100 : Word).extractLsb' 3 29 = (watched kernel).cp0.watchLo.extractLsb' 3 29 ∧
    (watched kernel).cp0.watchHi.extractLsb' 0 4 = 0 ∧ (setLLbit true (watched kernel)).llbit = true ∧
    statusEXL (watched kernel) = false ∧ statusERL (watched kernel) = false ∧
    translate (effAddr (watched inException) 4 0) .load (watched inException) = .ok (0x100, true) ∧
    statusEXL (watched inException) = true ∧ ops64Enabled (watched kernel) = true := by decide

/-- An access the checker refuses, and store-conditionals without LLbit to a watched address, with EXL = 0 and 1. -/
theorem witness_DataAccessExceptions_more :
    translate (effAddr unready 4 0) .load unready = .ok (0x100, true) ∧ watchMatches 0x100 false unready = false ∧
    cacheCheck 0x100 .load true unready = .error .cacheState ∧
    (watched kernel).llbit = false ∧ watchMatches 0x100 true (watched kernel) = true ∧
    (watched inException).llbit = false ∧ watchMatches 0x100 true (watched inException) = true ∧
    translate (effAddr (watched inException) 4 0) .store (watched inException) = .ok (0x100, true) := by decide

/-- The first and the last word of the regions of each clause; masks that select a part and the whole of a word. -/
theorem witness_BusRegions_regions :
    regionKind kernel.params 0 = .ram ∧ regionKind kernel.params 0x007FFFF8 = .ram ∧
    regionKind kernel.params 0x04000000 = .spMem ∧ regionKind kernel.params 0x04001FFC = .spMem ∧
    regionKind kernel.params 0x04300000 = .mi ∧ regionKind kernel.params 0x0430000C = .mi ∧
    regionKind kernel.params 0x04400000 = .vi ∧ regionKind kernel.params 0x04400034 = .vi ∧
    regionKind kernel.params 0x10000000 = .cartRom ∧ regionKind kernel.params 0x1FBFFFFC = .cartRom ∧
    regionKind kernel.params 0x1FC00000 = .pifRom ∧ regionKind kernel.params 0x1FC007BC = .pifRom ∧
    regionKind kernel.params 0x00800000 = .unmapped ∧ regionKind kernel.params 0xFFFFFFFC = .unmapped ∧
    regionKind kernel.params 0x03F00000 = .external ∧ regionKind kernel.params 0x04002000 = .refuse ∧
    (0x10000000 : Word).toNat - 0x10000000 + 4 ≤ ({ kernel with romLen := 4 } : State).romLen ∧
    ({ kernel with romLen := 4 } : State).romLen < (0x10000004 : Word).toNat - 0x10000000 + 4 ∧ Width.byte ≠ .word ∧
    (∃ j < Width.word.bytes, (byteMask 1 3).getLsbD j = false) ∧ (∀ j < Width.word.bytes, (byteMask 0 3).getLsbD j = true) ∧
    kernel.params.openBus = [] ∧ miWrite kernel.mi ((0x0430000C : Word) - 0x04300000).toNat 2 = .ok { kernel.mi with mask := 1 } ∧
    miWrite kernel.mi ((0x0430000C : Word) - 0x04300000).toNat 3 = .error .miSetAndClear := by decide

/-- r4 at MI_VERSION. -/
def atMi : State := setRegs [(4, 0xFFFFFFFFA4300004)] kernel

/-- Loads, stores and a store-conditional of RAM and of a device, answered and refused. -/
theorem witness_BusRegions_accesses :
    reachesBus kernel false (effAddr kernel 4 3) 0x103 kernel ∧ reachesBus kernel true (effAddr kernel 4 3) 0x103 kernel ∧
    reachesBus (setLLbit true kernel) true (effAddr (setLLbit true kernel) 4 0) 0x100 (setLLbit true kernel) ∧
    reachesBus atMi false (effAddr atMi 4 0) 0x04300004 atMi ∧
    (0x102 : Word).toNat = (0x103 : Word).toNat / 2 * 2 ∧ (0x100 : Word).toNat = (0x103 : Word).toNat / 4 * 4 ∧
    (0x100 : Word).toNat = (0x103 : Word).toNat / 8 * 8 ∧ 3 = (effAddr kernel 4 3).toNat % 4 ∧
    3 = (effAddr kernel 4 3).toNat % 8 ∧ ops64Enabled kernel = true ∧
    physRead kernel 0x103 .byte = .ok (0x44, kernel) ∧ physRead kernel 0x102 .half = .ok (0x3344, kernel) ∧
    physRead kernel 0x100 .word = .ok (0x11223344, kernel) ∧ physRead kernel 0x100 .dword = .ok (0x1122334455667788, kernel) ∧
    physRead atMi 0x04300004 .word = .ok (0x02020102, atMi) ∧ physRead atMi 0x04300004 .byte = .error .deviceWidth ∧
    physRead atMi 0x04300004 .half = .error .deviceWidth ∧ physRead atMi 0x04300000 .dword = .error .deviceWidth := by
  refine ⟨⟨true, by decide⟩, ⟨true, by decide⟩, ⟨true, by decide⟩, ⟨false, by decide⟩, ?_⟩
  decide

/-- The sizes of RDRAM at both ends of the legal range. -/
theorem witness_OneRegionPerAddress :
    ({ Params.default with rdramSize := 16 } : Params).legal ∧ ({ Params.default with rdramSize := 0x03F00000 } : Params).legal := by
  unfold Params.legal
  decide

theorem witness_Cp0Reads : cp0Usable kernel = true ∧ ops64Enabled kernel = true ∧
    (setCp0 (fun c => { c with wired := 31 }) kernel).cp0.wired.toNat ≤ 31 ∧
    cp0Usable (setCp0 (fun c => { c with wired := 31 }) kernel) = true ∧
    (31 : RegIdx) ∈ ([7, 21, 22, 23, 24, 25, 31] : List RegIdx) ∧
    31 < ((setCp0 (fun c => { c with wired := 32 }) kernel).cp0.wired.extractLsb' 0 6).toNat ∧
    (12 : RegIdx) ∉ ([2, 3, 4, 8, 10, 14, 20, 30] : List RegIdx) := by decide

theorem witness_Cp0Writes : cp0Usable kernel = true ∧ ops64Enabled kernel = true ∧
    (0xAABBCCDD : Word) = (readReg kernel 9).setWidth 32 ∧ (0xAABBCCDD : Word).extractLsb' 3 2 = 3 ∧
    (0xFFFFFFE7 : Word).extractLsb' 3 2 ≠ 3 ∧ (0xAABBCCDD : Word).getLsbD 15 = true ∧
    ((readReg kernel 0).setWidth 32 : Word).getLsbD 15 = false := by decide

/-- User mode with CP0 usable by Status.CU0. -/
def userCU0 : State := setStatus 0x10000010 user

theorem witness_DisabledInstructionsTrap :
    ops64Enabled user = false ∧ ops64Enabled supervisor = false ∧ cp0Usable user = false ∧ privileged .eret = true ∧
    cp0Usable userCU0 = true ∧ ops64Enabled userCU0 = false := by decide

theorem witness_CoprocessorsUnusable :
    statusCU kernel 1 = false ∧ statusCU kernel 2 = false ∧ statusCU (setStatus 0x20000000 kernel) 1 = true ∧
    statusCU (setStatus 0x40000000 kernel) 2 = true := by decide

/-- Index 0 and Index 31. -/
theorem witness_TlbWriteThenRead :
    cp0Usable kernel = true ∧ kernel.cp0.fieldsLegal ∧ legalMask (kernel.cp0.pageMask.extractLsb' 13 12) = true ∧
    (kernel.cp0.index.extractLsb' 0 6).toNat = 0 ∧
    (setCp0 (fun c => { c with index := 31 }) kernel).cp0.fieldsLegal ∧
    ((setCp0 (fun c => { c with index := 31 }) kernel).cp0.index.extractLsb' 0 6).toNat = 31 := by
  unfold Cp0.fieldsLegal
  decide

/-- An entry that is not 0, an Index out of range, and an illegal PageMask. -/
theorem witness_TlbWriteThenRead_more :
    cp0Usable userCU0 = true ∧ ((setCp0 (fun c => { c with index := 5 }) userCU0).cp0.index.extractLsb' 0 6).toNat = 5 ∧
    userCU0.tlb[5] ≠ TlbEntry.zero ∧ 32 ≤ ((setCp0 (fun c => { c with index := 32 }) kernel).cp0.index.extractLsb' 0 6).toNat ∧
    legalMask ((setCp0 (fun c => { c with pageMask := 0x2000 }) kernel).cp0.pageMask.extractLsb' 13 12) = false := by decide

/-- Wired 0 and 31; one match, none, and two. -/
theorem witness_TlbRandomAndProbe :
    cp0Usable kernel = true ∧ legalMask (kernel.cp0.pageMask.extractLsb' 13 12) = true ∧
    (kernel.cp0.wired.extractLsb' 0 6).toNat ≤ 31 ∧
    ((setCp0 (fun c => { c with wired := 31 }) kernel).cp0.wired.extractLsb' 0 6).toNat ≤ 31 ∧
    tlbHits (setCp0 (fun c => { c with entryHi := 0x00400000 }) user) 0x00400000 = [5] ∧
    tlbHits (setCp0 (fun c => { c with entryHi := 0x00800000 }) user) 0x00800000 = [] ∧
    32 ≤ ((setCp0 (fun c => { c with wired := 32 }) kernel).cp0.wired.extractLsb' 0 6).toNat ∧
    legalMask ((setCp0 (fun c => { c with pageMask := 0x2000 }) kernel).cp0.pageMask.extractLsb' 13 12) = false ∧
    (0 : Fin 32) ∈ tlbHits kernel kernel.cp0.entryHi ∧ (31 : Fin 32) ∈ tlbHits kernel kernel.cp0.entryHi := by decide

/-- The two TLBP states are privileged by CU0. -/
theorem witness_TlbRandomAndProbe_usable :
    cp0Usable (setStatus 0x10000010 (setCp0 (fun c => { c with entryHi := 0x00400000 }) user)) = true ∧
    tlbHits (setStatus 0x10000010 (setCp0 (fun c => { c with entryHi := 0x00400000 }) user)) 0x00400000 = [5] ∧
    tlbHits (setStatus 0x10000010 (setCp0 (fun c => { c with entryHi := 0x00800000 }) user)) 0x00800000 = [] := by decide

theorem witness_CacheWithoutChecker :
    cp0Usable kernel = true ∧ kernel.params.cacheCheck = false ∧ translate (effAddr kernel 4 0) .load kernel = .ok (0x100, true) ∧
    kernel.cp0.tagLo.extractLsb' 6 2 = 0 ∧
    (setCp0 (fun c => { c with tagLo := 0xC0 }) kernel).cp0.tagLo.extractLsb' 6 2 ≠ 0 ∧ regionKind kernel.params 0x100 = .ram ∧
    translate (effAddr (setRegs [(4, 0xFFFFFFFFA4000000)] kernel) 4 0) .load (setRegs [(4, 0xFFFFFFFFA4000000)] kernel) =
      .ok (0x04000000, false) ∧ regionKind kernel.params 0x04000000 ≠ .ram ∧ 2 ≤ ((0x02 : BitVec 5).extractLsb' 0 2).toNat := by
  decide

/-- CACHE of an address the mode may not use, and of one that is refused. -/
theorem witness_CacheWithoutChecker_translation :
    cp0Usable userCU0 = true ∧ ((0x11 : BitVec 5).extractLsb' 0 2).toNat < 2 ∧
    translate (effAddr userCU0 4 0) .load userCU0 = .error (.raise (.addressError false 0xFFFFFFFF80000100) userCU0) ∧
    cp0Usable (setRegs [(4, 0x100000000)] kernel) = true ∧
    translate (effAddr (setRegs [(4, 0x100000000)] kernel) 4 0) .load (setRegs [(4, 0x100000000)] kernel) =
      .error (.refuse .nonSext32Address) := by decide

/-- The checker on, with sets. -/
def checked (c : CacheSets) : State := { unready with cache := c }

/-- Sets in which the lines of physical 0x100 (data line 0x10, instruction line 8) are ready, present and clean. -/
def ready : CacheSets := { CacheSets.empty with dcInit := [0x10], icInit := [8], dcPresent := [0x10], icPresent := [8] }

/-- For physical 0x100: its lines and indices; not ready, stale, ready, dirty and clean. -/
theorem witness_CacheChecker_accesses :
    (checked ready).params.cacheCheck = true ∧ (0x10 : BitVec 28) = (0x100 : Word).extractLsb' 4 28 ∧
    (8 : BitVec 27) = (0x100 : Word).extractLsb' 5 27 ∧ (0x10 : BitVec 28).setWidth 9 ∉ CacheSets.empty.dcInit ∧
    (0x10 : BitVec 28) ∈ ({ ready with dcStale := [0x10] } : CacheSets).dcStale ∧ (0x10 : BitVec 28).setWidth 9 ∈ ready.dcInit ∧
    (0x10 : BitVec 28) ∉ ready.dcStale ∧ (0x10 : BitVec 28) ∈ ({ ready with dcDirty := [0x10] } : CacheSets).dcDirty ∧
    (0x10 : BitVec 28) ∉ ready.dcDirty ∧
    (8 : BitVec 27) ++ (1 : BitVec 1) ∈ ({ ready with dcDirty := [0x11] } : CacheSets).dcDirty ∧
    (8 : BitVec 27) ++ (0 : BitVec 1) ∉ ready.dcDirty ∧ (8 : BitVec 27) ++ (1 : BitVec 1) ∉ ready.dcDirty ∧
    (8 : BitVec 27).setWidth 9 ∉ CacheSets.empty.icInit ∧ (8 : BitVec 27) ∈ ({ ready with icStale := [8] } : CacheSets).icStale ∧
    (8 : BitVec 27).setWidth 9 ∈ ready.icInit ∧ (8 : BitVec 27) ∉ ready.icStale ∧ (0x100 : Nat) < 2 ^ 32 ∧
    (BitVec.ofNat 32 0x100 : Word).extractLsb' 4 28 = 0x10 := by decide

/-- CACHE with the checker on: TagLo.PState 0 and 3, a dirty line at the index, RAM and not RAM. -/
theorem witness_CacheChecker_operations :
    cp0Usable (checked ready) = true ∧ translate (effAddr (checked ready) 4 0) .load (checked ready) = .ok (0x100, true) ∧
    (checked ready).cp0.tagLo.extractLsb' 6 2 = 0 ∧ ready.dcDirty = [] ∧
    (0x210 : BitVec 28) ∈ ({ ready with dcDirty := [0x210] } : CacheSets).dcDirty ∧
    (0x210 : BitVec 28).setWidth 9 = (0x10 : BitVec 28).setWidth 9 ∧
    (setCp0 (fun c => { c with tagLo := 0xC0 }) (checked ready)).cp0.tagLo.extractLsb' 6 2 ≠ 0 ∧
    regionKind (checked ready).params 0x100 = .ram ∧ regionKind (checked ready).params 0x04000000 ≠ .ram := by decide

theorem witness_ExceptionEntryWrites :
    statusEXL kernel = false ∧ kernel.inDelaySlot = false ∧ statusEXL inSlot = false ∧ inSlot.inDelaySlot = true ∧
    statusEXL inException = true := by decide

theorem witness_TlbExceptionsRecord :
    ∃ t, t = exceptionEntry (.tlbRefill false 0x00800000) kernel ∧
      (Exc.tlbRefill false 0x00800000 = .tlbRefill false 0x00800000) := ⟨_, rfl, rfl⟩

theorem witness_ExceptionsArePrecise :
    kernel.stepFault = none ∧ ∃ t, exec (.syscall 0) kernel = .next t ∧ t.stepFault ≠ none :=
  ⟨rfl, _, rfl, by simp⟩

theorem witness_EretResult :
    cp0Usable kernel = true ∧ statusERL kernel = false ∧ cp0Usable base = true ∧ statusERL base = true := by decide

theorem witness_ReturnAfterEntry : statusEXL kernel = false ∧ statusERL kernel = false ∧ inSlot.inDelaySlot = true ∧
    statusEXL inSlot = false ∧ statusERL inSlot = false := by decide

/-- In user mode: an instruction that stays in it, one that leaves it, and one that writes LLAddr. -/
theorem witness_UnprivilegedCannotChangeCp0 :
    currentMode user ≠ .kernel ∧ statusCU user 0 = false ∧ (∃ t, exec (.ori 8 8 1) user = .next t) ∧
    (∃ t, exec .tlbwi user = .next t) ∧ statusCU (setRegs [(4, 0x00400100)] user) 0 = false ∧
    currentMode (setRegs [(4, 0x00400100)] user) ≠ .kernel ∧
    (exec (.ll 9 0 4) (setRegs [(4, 0x00400100)] user) matches .next _) = true :=
  ⟨by decide, by decide, ⟨_, rfl⟩, ⟨_, rfl⟩, by decide, by decide, by decide⟩

theorem witness_InterruptCheckRule :
    kernel.refused = none ∧ interruptDue kernel = false ∧
    interruptDue { setStatus 0x8001 kernel with timer := { pending := true, countFrac := 0 } } = true ∧
    interruptDue { setStatus 0x401 kernel with mi := { Mi.reset with intr := 8, mask := 8 } } = true ∧
    interruptDue (setCp0 (fun c => { c with cause := 0x300, status := 0x101 }) kernel) = true := by decide

/-- Writes that set and clear a bit, and writes that do not, of both registers. -/
theorem witness_MiRegisters :
    (∃ k < 6, (0xC00 : Word).getLsbD (2 * k) = true ∧ (0xC00 : Word).getLsbD (2 * k + 1) = true) ∧
    (∀ k < 6, ¬ ((0x555 : Word).getLsbD (2 * k) = true ∧ (0x555 : Word).getLsbD (2 * k + 1) = true)) ∧
    (((0x3000 : Word).getLsbD 7 && (0x3000 : Word).getLsbD 8) || ((0x3000 : Word).getLsbD 9 && (0x3000 : Word).getLsbD 10) ||
      ((0x3000 : Word).getLsbD 12 && (0x3000 : Word).getLsbD 13)) = true ∧
    (((0x2115 : Word).getLsbD 7 && (0x2115 : Word).getLsbD 8) || ((0x2115 : Word).getLsbD 9 && (0x2115 : Word).getLsbD 10) ||
      ((0x2115 : Word).getLsbD 12 && (0x2115 : Word).getLsbD 13)) = false := by decide

/-- VI_STATUS, VI_ORIGIN and VI_WIDTH set. -/
def framed (status origin width : Word) : State :=
  { kernel with vi := { reg := ((Vi.reset.reg.set 0 status).set 1 origin).set 2 width, cycles := 0 } }

/-- A tick that passes a frame, one that does not, and one whose sum wraps; the last pixel of a view, inside and outside RDRAM. -/
theorem witness_ViDevice :
    13 < 14 ∧ 13 ≠ 4 ∧ 1562500 = (Vi.reset.cycles.toNat + 1562500) % 2 ^ 64 ∧ Params.default.budget ≤ 1562500 ∧
    1562499 = (Vi.reset.cycles.toNat + 1562499) % 2 ^ 64 ∧ 1562499 < Params.default.budget ∧
    0 = (({ Vi.reset with cycles := 0xFFFFFFFFFFFFFFFF } : Vi).cycles.toNat + 1) % 2 ^ 64 ∧
    319 < kernel.params.fbWidth ∧ 239 < kernel.params.fbHeight ∧
    2 = (framed 2 0x1001 320).vi.reg[0].toNat % 4 ∧ 0x1001 = (framed 2 0x1001 320).vi.reg[1].toNat % 2 ^ 24 ∧
    76799 = 239 * ((framed 2 0x1001 320).vi.reg[2].toNat % 2 ^ 12) + 319 ∧ 0x267FE = (0x1001 + 2 * 76799) / 2 * 2 ∧
    0x267FE + 2 ≤ kernel.params.rdramSize ∧ 0xFFFFFF = (framed 3 0xFFFFFF 0).vi.reg[1].toNat % 2 ^ 24 ∧
    3 = (framed 3 0xFFFFFF 0).vi.reg[0].toNat % 4 ∧ kernel.params.rdramSize < 0xFFFFFC + 4 ∧
    0xFFFFFC = (0xFFFFFF + 4 * 0) / 4 * 4 ∧ 0 = Vi.reset.reg[0].toNat % 4 := by decide

theorem witness_TimerTickRule :
    1 = (({ pending := false, countFrac := 1 } : Timer).countFrac + 1) / Params.default.countDiv := by decide

/-- A frame whose budget is used up, with the timer's interrupt pending and enabled. -/
def frameDone : State :=
  { setStatus 0x8001 kernel with
    timer := { pending := true, countFrac := 0 }
    frame := { Frame.initial with open_ := true, fc := 1562500 } }

theorem witness_FrameRules :
    kernel.frame.open_ = false ∧ kernel.params.granularity = .frame ∧ kernel.core = .running ∧ kernel.refused = none ∧
    kernel.extActive = false ∧ kernel.frame.fc < kernel.params.budget ∧
    ({ kernel with params := { kernel.params with granularity := .step } } : State).params.granularity = .step ∧
    (create Params.default).refused = none ∧ (create Params.default).core ≠ .running ∧
    (create Params.default).extActive = false ∧ (create Params.default).frame.open_ = false ∧
    (create Params.default).timer.countFrac < (create Params.default).params.countDiv := by decide

/-- The end of a frame at which an interrupt is taken. -/
theorem witness_FrameRules_interrupt :
    frameDone.refused = none ∧ frameDone.extActive = false ∧ frameDone.params.budget ≤ frameDone.frame.fc ∧
    frameDone.frame.fc = frameDone.params.budget ∧ frameDone.frame.ticked = 0 ∧
    frameDone.vi.cycles.toNat + frameDone.params.budget < 2 ^ 64 ∧
    interruptDue (tickDevices (frameDone.frame.fc - frameDone.frame.ticked) frameDone) = true := by decide

/-- Without the checker the external agents' stores are never refused. -/
theorem externalStores_ok (l : List Host.Cell) (s : State) (h : s.params.cacheCheck = false) : ∃ t, externalStores l s = .ok t := by
  induction l generalizing s with
  | nil => exact ⟨s, rfl⟩
  | cons c l ih =>
    obtain ⟨a, v⟩ := c
    simp only [externalStores, h, Bool.false_eq_true, if_false]
    split
    · exact ih _ h
    · exact ih _ h

theorem witness_ExternalAgentsBounded :
    (∃ t, externalAgents { kernel with extActive := true } = .ok t) ∧ externalAgents kernel = .ok kernel ∧
    kernel.extActive = false ∧ kernel.params.cacheCheck = false ∧
    regionKind kernel.params (BitVec.ofNat 32 0x10000000) ≠ .ram ∧
    regionKind kernel.params (BitVec.ofNat 32 0x10000000) ≠ .spMem := by
  refine ⟨?_, rfl, rfl, rfl, by decide, by decide⟩
  obtain ⟨t, ht⟩ := externalStores_ok (Config.extWrites kernel.draws)
    { kernel with
      extActive := true
      mi := { kernel.mi with intr := externalIntr kernel.mi.intr (Config.extIntr kernel.draws) }
      draws := kernel.draws + 1 } rfl
  exact ⟨t, by simp only [externalAgents, if_true]; exact congrArg (orMark _) ht⟩

/-- Images of no byte, of as many bytes as the window, and of one more. -/
theorem witness_LoadImageRule :
    ({ kernel with params := { kernel.params with romWindow := 1 } } : State).params.romWindow < ([1, 2] : List Byte).length ∧
    ([1, 2] : List Byte) ≠ [] ∧
    ([1, 2] : List Byte).length ≤ ({ kernel with params := { kernel.params with romWindow := 2 } } : State).params.romWindow := by
  decide

/-- The vectors' user mode meets the invariant, and a step completes there. -/
theorem witness_StepKeepsInvariant : Inv user ∧ ∃ t, step user = .next t := by
  refine ⟨⟨by decide, ?_, ?_, ?_, ?_, ?_, rfl, ?_⟩, ?_⟩
  · unfold Cp0.fieldsLegal; decide
  · unfold Cp0.modeLegal; decide
  · unfold countersInRange; decide
  · unfold tlbMasksLegal; decide
  · unfold frameInRange; decide
  · unfold Params.legal; decide
  · exact ⟨_, rfl⟩

/-- The last bytes of RDRAM, of SP IMEM, of the cartridge window and of the PIF ROM. -/
theorem witness_ResetValues : ∃ t, t = resetOp State.reset ∧
    (0x007FFFFF : Nat) < State.reset.params.rdramSize ∧ (0x04001FFF : Nat) < 0x04002000 ∧
    (0x1FBFFFFF : Nat) < 0x10000000 + State.reset.params.romWindow ∧ (0x1FC007BF : Nat) < 0x1FC007C0 :=
  ⟨_, rfl, by decide, by decide, by decide, by decide⟩

/-- Parameters other than the defaults, with a byte of RDRAM that is not 0 at reset. -/
theorem witness_ResetMeetsInvariant :
    ({ Params.default with cpi := 2, ramInit := [(0x100, 7)] } : Params).legal ∧
    Memory.wf ({ Params.default with cpi := 2, ramInit := [(0x100, 7)] } : Params).ramInit = true := by
  unfold Params.legal
  decide

end Sys2Proof.Tests
end

section
/-! PROOFS. What every instruction can do: the inversion of `exec` (10_state.md R31), one lemma per shape of instruction and one for the
dispatch. -/

namespace Sys2Proof.Machine

/-! ## The effect of an instruction -/

/-- What instruction `i` does to `s`, before pc is updated by the flow, when it neither raises nor refuses: one constructor per kind of
state change, with the guards under which the instruction makes it. -/
inductive Effect (i : Instr) (s : State) : Flow → State → Prop
  /-- The destination is written; a load also leaves the checker's sets, and free values count as draws. -/
  | write {r : RegIdx} (hr : r ∈ destRegs i) (v : DWord) (c : CacheSets) (d : Nat) :
      Effect i s .next (writeReg { s with cache := c, draws := d } r v)
  /-- MFHI and MFLO write the destination and open the hazard window of the register they read. -/
  | moveFrom {r : RegIdx} (hr : r ∈ destRegs i) (v : DWord) {hi lo : Nat} (hhi : hi = s.hiReadAge ∨ hi = hazardWindow)
      (hlo : lo = s.loReadAge ∨ lo = hazardWindow) :
      Effect i s .next { writeReg s r v with hiReadAge := hi, loReadAge := lo }
  /-- HI and LO are written by the instructions that may. -/
  | pair {hi lo : DWord} (hhi : writesHi i = true ∨ hi = s.hi) (hlo : writesLo i = true ∨ lo = s.lo) (d : Nat) :
      Effect i s .next { s with hi := hi, lo := lo, draws := d }
  /-- A load-linked. -/
  | linked {r : RegIdx} (hr : r ∈ destRegs i) (v : DWord) (pa : Word) (c : CacheSets) (d : Nat) :
      Effect i s .next (linked { s with cache := c, draws := d } r v pa)
  /-- A store, at the address of its form. -/
  | store {w : Width} {o : BitVec 16} {base : RegIdx} (hf : storeForm i = some (w, o, base)) {v : DWord} {mask : BitVec 8} {u : State}
      (hu : memWriteMasked s (effAddr s base o) w v mask = .ok u) : Effect i s .next u
  /-- A store-conditional that stores, and writes its success. -/
  | storeAndWrite {w : Width} {o : BitVec 16} {base : RegIdx} (hf : storeForm i = some (w, o, base)) {v : DWord} {mask : BitVec 8}
      {u : State} (hu : memWriteMasked s (effAddr s base o) w v mask = .ok u) {r : RegIdx} (hr : r ∈ destRegs i) (x : DWord) :
      Effect i s .next (writeReg u r x)
  /-- Nothing: a trap whose condition fails, or SYNC. -/
  | stay : Effect i s .next s
  /-- A branch or jump, with its link if it has one. -/
  | branch (hc : i.isControl = true) (f : Flow) : Effect i s f s
  | branchLink (hc : i.isControl = true) {r : RegIdx} (hr : r ∈ destRegs i) (v : DWord) (f : Flow) : Effect i s f (writeReg s r v)
  /-- ERET. -/
  | eret (hc : i.isControl = true) (hp : privileged i = true) (hu : cp0Usable s = true) : Effect i s .redirected (exceptionReturn s)
  /-- A move to CP0. -/
  | cp0Write (hp : privileged i = true) (hu : cp0Usable s = true) {n : RegIdx} {v : DWord} {u : State}
      (h : cp0Write s n v = .ok u) : Effect i s .next u
  /-- TLBR. -/
  | tlbRead (hp : privileged i = true) (hu : cp0Usable s = true) {n : Nat} {u : State} (h : tlbRead s n = .ok u) : Effect i s .next u
  /-- TLBWI and TLBWR. -/
  | tlbWrite (hp : privileged i = true) (hu : cp0Usable s = true) (d : Nat) {n : Fin 32} {u : State}
      (h : tlbWrite { s with draws := d } n = .ok u) : Effect i s .next u
  /-- TLBP. -/
  | tlbProbe (hp : privileged i = true) (hu : cp0Usable s = true) {u : State} (h : tlbProbe s = .ok u) : Effect i s .next u
  /-- CACHE on the data cache or on the instruction cache. -/
  | cacheData (hp : privileged i = true) (hu : cp0Usable s = true) {o : BitVec 3} {pa : Word} {u : State}
      (h : operateData o pa s = .ok u) : Effect i s .next u
  | cacheInstr (hp : privileged i = true) (hu : cp0Usable s = true) {o : BitVec 3} {pa : Word} {u : State}
      (h : operateInstr o pa s = .ok u) : Effect i s .next u

/-- An outcome of `i` in `s` is the effect of `i` with the flow that ends it, or an exception taken with nothing changed but draws, or a
refusal. -/
def Ends (i : Instr) (s : State) (o : Out) : Prop :=
  ∀ t, o = .next t → (∃ f u, Effect i s f u ∧ t = advance f u) ∨ ∃ e d, t = takeException e { s with draws := d }

/-! ## The shared shapes -/

section
variable {i : Instr} {s : State}

theorem Ends.ok {f : Flow} {u : State} (h : Effect i s f u) : Ends i s (complete (.ok (f, u))) :=
  fun t ht => .inl ⟨f, u, h, by simpa using ht.symm⟩

theorem Ends.raise (e : Exc) (d : Nat) : Ends i s (complete (.error (.raise e { s with draws := d }))) :=
  fun t ht => .inr ⟨e, d, by simpa using ht.symm⟩

theorem Ends.refuse (r : Refusal) : Ends i s (complete (.error (.refuse r))) :=
  fun t ht => absurd ht (by simp)

/-- A completed operation ends well when its result is an effect and its exceptions leave the state as it was. -/
theorem Ends.completeNext {r : Res State} (hok : ∀ u, r = .ok u → Effect i s .next u)
    (hraise : ∀ e u, r = .error (.raise e u) → u = s) : Ends i s (completeNext r) := by
  intro t ht
  rcases completeNext_next ht with ⟨u, hu, rfl⟩ | ⟨e, u, hu, rfl⟩
  · exact .inl ⟨.next, u, hok u hu, rfl⟩
  · obtain rfl := hraise e u hu
    exact .inr ⟨e, u.draws, rfl⟩

theorem Ends.after64 {o : Out} (h : Ends i s o) : Ends i s (after64 s o) := by
  cases h64 : ops64Enabled s
  · rw [after64_raise h64]; exact Ends.raise .ri s.draws
  · rw [after64_ok h64]; exact h

/-- `RequireCP0()` before the rest of an instruction. -/
theorem Ends.requireCp0 {k : Res (Flow × State)} (h : cp0Usable s = true → Ends i s (complete k)) :
    Ends i s (complete (do requireCp0 s; k)) := by
  cases hc : cp0Usable s
  · rw [requireCp0_raise hc]; exact Ends.raise (.cpU 0) s.draws
  · rw [requireCp0_ok hc]; exact h hc

theorem Ends.requireCp0Next {k : Res State} (h : cp0Usable s = true → Ends i s (Machine.completeNext k)) :
    Ends i s (Machine.completeNext (do Machine.requireCp0 s; k)) := by
  cases hc : cp0Usable s
  · rw [requireCp0_raise hc]; exact Ends.raise (.cpU 0) s.draws
  · rw [requireCp0_ok hc]; exact h hc

/-- `Require64()` before the rest of an instruction. -/
theorem Ends.require64 {k : Res (Flow × State)} (h : Ends i s (complete k)) : Ends i s (complete (do require64 s; k)) := by
  cases hc : ops64Enabled s
  · rw [require64_raise hc]; exact Ends.raise .ri s.draws
  · rw [require64_ok hc]; exact h

theorem Ends.require64Next {k : Res State} (h : Ends i s (Machine.completeNext k)) :
    Ends i s (Machine.completeNext (do Machine.require64 s; k)) := by
  cases hc : ops64Enabled s
  · rw [require64_raise hc]; exact Ends.raise .ri s.draws
  · rw [require64_ok hc]; exact h

/-! ## Integer results (40_alu.md R122 to R125) -/

theorem Ends.writeReg {r : RegIdx} (hr : r ∈ destRegs i) (v : DWord) (d : Nat) :
    Ends i s (complete (.ok (.next, writeReg { s with draws := d } r v))) :=
  Ends.ok (.write hr v s.cache d)

theorem Ends.writeWord {r : RegIdx} (hr : r ∈ destRegs i) (b : Bool) (v : Word) : Ends i s (writeWord s r b v) := by
  cases b
  · exact Ends.writeReg hr _ (s.draws + 1)
  · exact Ends.writeReg hr _ s.draws

theorem Ends.writeWordTrap {r : RegIdx} (hr : r ∈ destRegs i) (b : Bool) (v : Int) : Ends i s (writeWordTrap s r b v) := by
  unfold Machine.writeWordTrap
  cases b
  · simp only [Bool.false_eq_true, if_false]
    split
    · exact Ends.raise .ov (s.draws + 1)
    · exact Ends.writeReg hr _ (s.draws + 2)
  · simp only [if_true]
    split
    · exact Ends.writeReg hr _ s.draws
    · exact Ends.raise .ov s.draws

theorem Ends.writeDouble {r : RegIdx} (hr : r ∈ destRegs i) (v : DWord) : Ends i s (writeDouble s r v) :=
  Ends.require64 (Ends.writeReg hr v s.draws)

theorem Ends.writeDoubleTrap {r : RegIdx} (hr : r ∈ destRegs i) (v : Int) : Ends i s (writeDoubleTrap s r v) := by
  refine Ends.require64 ?_
  split
  · exact Ends.writeReg hr _ s.draws
  · exact Ends.raise .ov s.draws

/-! ## HI and LO (41_muldiv.md R167 to R169) -/

theorem Ends.writePair (hhi : writesHi i = true) (hlo : writesLo i = true) (hi lo : DWord) (d : Nat) :
    Ends i s (writePair { s with draws := d } hi lo) := by
  intro t ht
  obtain ⟨-, rfl⟩ := writePair_next ht
  exact .inl ⟨.next, _, .pair (.inl hhi) (.inl hlo) d, rfl⟩

theorem Ends.drawPair32 (hhi : writesHi i = true) (hlo : writesLo i = true) : Ends i s (drawPair32 s) :=
  Ends.writePair hhi hlo _ _ (s.draws + 2)

theorem Ends.drawPair64 (hhi : writesHi i = true) (hlo : writesLo i = true) : Ends i s (drawPair64 s) :=
  Ends.writePair hhi hlo _ _ (s.draws + 2)

/-- The word multiplies and divides: the pair they define, or draws (R168). -/
theorem Ends.wordPair (hhi : writesHi i = true) (hlo : writesLo i = true) {rs rt : RegIdx} {o : Out} (h : Ends i s o) :
    Ends i s (wordPair s rs rt o) := by
  unfold Machine.wordPair
  split
  · exact h
  · exact Ends.drawPair32 hhi hlo

theorem Ends.writeHi (hhi : writesHi i = true) (v : DWord) : Ends i s (Machine.completeNext (writeHi s v)) := by
  refine Ends.completeNext (fun u hu => ?_) (fun e u hu => ?_) <;> unfold Machine.writeHi at hu <;> split at hu
  · cases hu
  · obtain rfl : { s with hi := v } = u := by simpa using hu
    exact .pair (.inl hhi) (.inr rfl) s.draws
  · cases hu
  · cases hu

theorem Ends.writeLo (hlo : writesLo i = true) (v : DWord) : Ends i s (Machine.completeNext (writeLo s v)) := by
  refine Ends.completeNext (fun u hu => ?_) (fun e u hu => ?_) <;> unfold Machine.writeLo at hu <;> split at hu
  · cases hu
  · obtain rfl : { s with lo := v } = u := by simpa using hu
    exact .pair (.inr rfl) (.inl hlo) s.draws
  · cases hu
  · cases hu

/-! ## Loads and stores (43_loadstore.md) -/

theorem Ends.loadWith {r : RegIdx} (hr : r ∈ destRegs i) (w : Width) (f : DWord → DWord) (o : BitVec 16) (base : RegIdx) :
    Ends i s (loadWith w f r o base s) := by
  intro t ht
  rcases loadWith_next ht with ⟨v, pa, s', hm, rfl⟩ | ⟨e, -, rfl⟩
  · obtain ⟨-, -, c, d, rfl⟩ := memRead_eq_ok hm
    exact .inl ⟨.next, _, .write hr _ c d, rfl⟩
  · exact .inr ⟨e, s.draws, rfl⟩

theorem Ends.loadLinked {r : RegIdx} (hr : r ∈ destRegs i) (w : Width) (o : BitVec 16) (base : RegIdx) :
    Ends i s (loadLinked w r o base s) := by
  intro t ht
  rcases loadLinked_next ht with ⟨v, pa, s', hm, rfl⟩ | ⟨e, -, rfl⟩
  · obtain ⟨-, -, c, d, rfl⟩ := memRead_eq_ok hm
    exact .inl ⟨.next, _, .linked hr _ pa c d, rfl⟩
  · exact .inr ⟨e, s.draws, rfl⟩

theorem Ends.lwl {r : RegIdx} (hr : r ∈ destRegs i) (o : BitVec 16) (base : RegIdx) : Ends i s (execLwl r o base s) := by
  simp only [execLwl]
  exact Ends.loadWith hr .word _ o base

/-- LWR, whose upper half is a draw unless the address ends its word (R221). -/
theorem Ends.lwr {r : RegIdx} (hr : r ∈ destRegs i) (o : BitVec 16) (base : RegIdx) : Ends i s (execLwr r o base s) := by
  simp only [execLwr]
  cases hm : memRead s (effAddr s base o) .word with
  | ok p =>
    obtain ⟨v, pa, s'⟩ := p
    obtain ⟨-, -, c, d, rfl⟩ := memRead_eq_ok hm
    simp only [bind, Except.bind, pure, Except.pure]
    split
    · exact Ends.ok (.write hr _ c d)
    · exact Ends.ok (.write hr _ c (d + 1))
  | error st =>
    cases st with
    | raise e s' =>
      obtain rfl := (memRead_raise hm).1
      exact Ends.raise e s'.draws
    | refuse r => exact Ends.refuse r

theorem Ends.store {w : Width} {o : BitVec 16} {base : RegIdx} (hf : storeForm i = some (w, o, base)) (v : DWord) (mask : BitVec 8) :
    Ends i s (Machine.completeNext (memWriteMasked s (effAddr s base o) w v mask)) :=
  Ends.completeNext (fun _ hu => .store hf hu) (fun _ _ hu => (memWriteMasked_raise hu).1)

theorem Ends.storeConditional {r : RegIdx} (hr : r ∈ destRegs i) {w : Width} {o : BitVec 16} {base : RegIdx}
    (hf : storeForm i = some (w, o, base)) : Ends i s (storeConditional w r o base s) := by
  intro t ht
  rcases storeConditional_next ht with ⟨-, s', hm, rfl⟩ | ⟨-, -, rfl⟩ | ⟨e, rfl⟩
  · exact .inl ⟨.next, _, .storeAndWrite hf hm hr 1, rfl⟩
  · exact .inl ⟨.next, _, .write hr 0 s.cache s.draws, rfl⟩
  · exact .inr ⟨e, s.draws, rfl⟩

/-! ## Branches, jumps and traps (42_control.md, 44_system.md R241) -/

theorem Ends.branchLink (hc : i.isControl = true) (hr : (31 : RegIdx) ∈ destRegs i) (rs : RegIdx) (b : Bool) (o : BitVec 16) :
    Ends i s (branchLink rs b o s) := by
  unfold Machine.branchLink
  split
  · exact Ends.refuse _
  · exact Ends.ok (.branchLink hc hr _ _)

theorem Ends.branchLinkLikely (hc : i.isControl = true) (hr : (31 : RegIdx) ∈ destRegs i) (rs : RegIdx) (b : Bool) (o : BitVec 16) :
    Ends i s (branchLinkLikely rs b o s) := by
  unfold Machine.branchLinkLikely
  split
  · exact Ends.refuse _
  · exact Ends.ok (.branchLink hc hr _ _)

theorem Ends.jalr (hc : i.isControl = true) {rd rs : RegIdx} (hr : rd ∈ destRegs i) : Ends i s (execJalr rd rs s) := by
  unfold execJalr
  split
  · exact Ends.refuse _
  · exact Ends.ok (.branchLink hc hr _ _)

theorem Ends.trapIf (b : Bool) : Ends i s (trapIf b s) := by
  cases b
  · exact Ends.ok .stay
  · exact Ends.raise .tr s.draws

/-! ## Coprocessors (44_system.md, 45_coprocessor.md R269) -/

theorem Ends.coprocessor1 : Ends i s (coprocessor1 s) := by
  unfold Machine.coprocessor1
  split
  · exact Ends.refuse _
  · exact Ends.raise (.cpU 1) s.draws

theorem Ends.coprocessor2 : Ends i s (coprocessor2 s) := by
  unfold Machine.coprocessor2
  split
  · exact Ends.refuse _
  · exact Ends.raise (.cpU 2) s.draws

theorem Ends.cp0Write (hp : privileged i = true) (hu : cp0Usable s = true) (n : RegIdx) (v : DWord) :
    Ends i s (Machine.completeNext (cp0Write s n v)) :=
  Ends.completeNext (fun _ h => .cp0Write hp hu h) (fun _ _ h => absurd h cp0Write_not_raise)

/-- A CP0 read into a register. -/
theorem Ends.cp0Read {r : RegIdx} (hr : r ∈ destRegs i) (n : RegIdx) (v : DWord) :
    Ends i s (complete (.ok (.next, Machine.writeReg (cp0Read s n).2 r v))) := by
  obtain ⟨d, hd⟩ := cp0Read_snd s n
  rw [hd]
  exact Ends.writeReg hr v d

theorem Ends.dmfc0 {rt : RegIdx} (hr : rt ∈ destRegs i) (rd : RegIdx) : Ends i s (execDmfc0 rt rd s) := by
  refine Ends.requireCp0 fun _ => Ends.require64 ?_
  split
  · exact Ends.cp0Read hr rd _
  · exact Ends.writeReg hr _ (s.draws + 1)

theorem Ends.dmtc0 (hp : privileged i = true) (rt rd : RegIdx) : Ends i s (execDmtc0 rt rd s) := by
  refine Ends.requireCp0Next fun hu => Ends.require64Next ?_
  split
  · exact Ends.cp0Write hp hu rd _
  · exact Ends.refuse _

theorem tlbRead_not_raise {s u : State} {n : Nat} {e : Exc} : tlbRead s n ≠ .error (.raise e u) := by
  unfold tlbRead; split <;> simp

theorem tlbWrite_not_raise {s u : State} {n : Fin 32} {e : Exc} : tlbWrite s n ≠ .error (.raise e u) := by
  unfold tlbWrite; split <;> simp

theorem tlbProbe_not_raise {s u : State} {e : Exc} : tlbProbe s ≠ .error (.raise e u) := by
  unfold tlbProbe; split <;> simp

theorem Ends.tlbr (hp : privileged i = true) : Ends i s (execTlbr s) :=
  Ends.requireCp0Next fun hu => Ends.completeNext (fun _ h => .tlbRead hp hu h) (fun _ _ h => absurd h tlbRead_not_raise)

theorem Ends.tlbwi (hp : privileged i = true) : Ends i s (execTlbwi s) := by
  refine Ends.requireCp0Next fun hu => ?_
  split
  · exact Ends.completeNext (fun _ h => .tlbWrite hp hu s.draws h) (fun _ _ h => absurd h tlbWrite_not_raise)
  · exact Ends.refuse _

theorem Ends.tlbwr (hp : privileged i = true) : Ends i s (execTlbwr s) := by
  refine Ends.requireCp0Next fun hu => ?_
  split
  · exact Ends.completeNext (fun _ h => .tlbWrite hp hu (s.draws + 1) h) (fun _ _ h => absurd h tlbWrite_not_raise)
  · exact Ends.refuse _

theorem Ends.tlbp (hp : privileged i = true) : Ends i s (execTlbp s) :=
  Ends.requireCp0Next fun hu => Ends.completeNext (fun _ h => .tlbProbe hp hu h) (fun _ _ h => absurd h tlbProbe_not_raise)

theorem withSets_not_raise {s u : State} {f : CacheSets → Except Refusal CacheSets} {e : Exc} : withSets s f ≠ .error (.raise e u) := by
  unfold withSets
  split
  · cases f s.cache <;> simp [Except.map, orRefuse]
  · simp

theorem storeTag_not_raise {s u : State} {f : CacheSets → Except Refusal CacheSets} {e : Exc} : storeTag s f ≠ .error (.raise e u) := by
  unfold storeTag
  split
  · simp
  · exact withSets_not_raise

theorem operateData_not_raise {o : BitVec 3} {pa : Word} {s u : State} {e : Exc} : operateData o pa s ≠ .error (.raise e u) := by
  unfold operateData
  split
  case h_2 | h_8 => simp
  case h_3 => exact storeTag_not_raise
  case h_4 =>
    split
    · exact withSets_not_raise
    · simp
  all_goals exact withSets_not_raise

theorem operateInstr_not_raise {o : BitVec 3} {pa : Word} {s u : State} {e : Exc} : operateInstr o pa s ≠ .error (.raise e u) := by
  unfold operateInstr
  split
  case h_2 | h_6 | h_7 => simp
  case h_3 => exact storeTag_not_raise
  all_goals exact withSets_not_raise

theorem Ends.cache (hp : privileged i = true) (op : BitVec 5) (o : BitVec 16) (base : RegIdx) : Ends i s (execCache op o base s) := by
  refine Ends.requireCp0Next fun hu => ?_
  split
  · exact Ends.refuse _
  · cases ht : translate (effAddr s base o) .load s with
    | ok p =>
      obtain ⟨pa, cached⟩ := p
      simp only [bind, Except.bind]
      split
      · exact Ends.completeNext (fun _ h => .cacheData hp hu h) (fun _ _ h => absurd h operateData_not_raise)
      · exact Ends.completeNext (fun _ h => .cacheInstr hp hu h) (fun _ _ h => absurd h operateInstr_not_raise)
    | error st =>
      cases st with
      | raise e u =>
        obtain rfl := (translate_raise ht).1
        exact Ends.raise e u.draws
      | refuse r => exact Ends.refuse r

end

/-! ## The dispatch (60_exceptions.md R284) -/

/-- Every instruction ends with its effect, with an exception, or with a refusal. -/
theorem exec_ends (i : Instr) (s : State) : Ends i s (exec i s) := by
  cases i with
  | add | sub | addi => exact Ends.writeWordTrap (List.mem_singleton_self _) _ _
  | addu | subu | addiu | srl | sra | srlv | srav => exact Ends.writeWord (List.mem_singleton_self _) _ _
  | dadd | dsub | daddi => exact Ends.writeDoubleTrap (List.mem_singleton_self _) _
  | daddu | dsubu | daddiu | dsll | dsrl | dsra | dsll32 | dsrl32 | dsra32 | dsllv | dsrlv | dsrav =>
    exact Ends.writeDouble (List.mem_singleton_self _) _
  | sll | sllv | slt | sltu | slti | sltiu | and | or | xor | nor | andi | ori | xori | lui =>
    exact Ends.writeReg (List.mem_singleton_self _) _ s.draws
  | mfhi => exact Ends.ok (.moveFrom (List.mem_singleton_self _) _ (.inr rfl) (.inl (writeReg_loReadAge _ _ _)))
  | mflo => exact Ends.ok (.moveFrom (List.mem_singleton_self _) _ (.inl (writeReg_hiReadAge _ _ _)) (.inr rfl))
  | mthi => exact Ends.writeHi rfl _
  | mtlo => exact Ends.writeLo rfl _
  | mult | multu => exact Ends.wordPair rfl rfl (Ends.writePair rfl rfl _ _ s.draws)
  | div | divu =>
    refine Ends.wordPair rfl rfl ?_
    split
    · exact Ends.drawPair32 rfl rfl
    · exact Ends.writePair rfl rfl _ _ s.draws
  | dmult | dmultu => exact Ends.after64 (Ends.writePair rfl rfl _ _ s.draws)
  | ddiv | ddivu =>
    refine Ends.after64 ?_
    split
    · exact Ends.drawPair64 rfl rfl
    · exact Ends.writePair rfl rfl _ _ s.draws
  | lb | lbu | lh | lhu | lw => exact Ends.loadWith (List.mem_singleton_self _) _ _ _ _
  | lwl => exact Ends.lwl (List.mem_singleton_self _) _ _
  | lwu | ld | ldl | ldr => exact Ends.after64 (Ends.loadWith (List.mem_singleton_self _) _ _ _ _)
  | lwr => exact Ends.lwr (List.mem_singleton_self _) _ _
  | ll => exact Ends.loadLinked (List.mem_singleton_self _) _ _ _
  | lld => exact Ends.after64 (Ends.loadLinked (List.mem_singleton_self _) _ _ _)
  | sb | sh | sw | swl | swr => exact Ends.store rfl _ _
  | sd | sdl | sdr => exact Ends.after64 (Ends.store rfl _ _)
  | sc => exact Ends.storeConditional (List.mem_singleton_self _) rfl
  | scd => exact Ends.after64 (Ends.storeConditional (List.mem_singleton_self _) rfl)
  | beq | bne | blez | bgtz | bltz | bgez | beql | bnel | blezl | bgtzl | bltzl | bgezl | j | jr => exact Ends.ok (.branch rfl _)
  | bltzal | bgezal => exact Ends.branchLink rfl (List.mem_singleton_self _) _ _ _
  | bltzall | bgezall => exact Ends.branchLinkLikely rfl (List.mem_singleton_self _) _ _ _
  | jal => exact Ends.ok (.branchLink rfl (List.mem_singleton_self _) _ _)
  | jalr => exact Ends.jalr rfl (List.mem_singleton_self _)
  | syscall => exact Ends.raise .sys s.draws
  | brk => exact Ends.raise .bp s.draws
  | tge | tgeu | tlt | tltu | teq | tne | tgei | tgeiu | tlti | tltiu | teqi | tnei => exact Ends.trapIf _
  | sync => exact Ends.ok .stay
  | eret => exact Ends.requireCp0 fun hu => Ends.ok (.eret rfl rfl hu)
  | mfc0 => exact Ends.requireCp0 fun _ => Ends.cp0Read (List.mem_singleton_self _) _ _
  | dmfc0 => exact Ends.dmfc0 (List.mem_singleton_self _) _
  | mtc0 => exact Ends.requireCp0Next fun hu => Ends.cp0Write rfl hu _ _
  | dmtc0 => exact Ends.dmtc0 rfl _ _
  | tlbr => exact Ends.tlbr rfl
  | tlbwi => exact Ends.tlbwi rfl
  | tlbwr => exact Ends.tlbwr rfl
  | tlbp => exact Ends.tlbp rfl
  | cache => exact Ends.cache rfl _ _ _
  | cop1 | lwc1 | ldc1 | swc1 | sdc1 => exact Ends.coprocessor1
  | cop2 | lwc2 | ldc2 | swc2 | sdc2 => exact Ends.coprocessor2

end Sys2Proof.Machine
end

section
/-! PROOFS. The statements about the step, the flow of control and the general registers (10_state.md R24 to R34): the frame of an
instruction's effect, from which the statements over all instructions follow. -/

namespace Sys2Proof.Machine

/-! ## The CACHE instruction (44_system.md R267) -/

section
variable {s u : State}

theorem withSets_eq_ok {f : CacheSets → Except Refusal CacheSets} (h : withSets s f = .ok u) : ∃ c, u = { s with cache := c } := by
  unfold withSets at h
  split at h
  · cases hf : f s.cache with
    | ok c => rw [hf] at h; exact ⟨c, by simpa [Except.map, orRefuse] using h.symm⟩
    | error r => rw [hf] at h; simp [Except.map, orRefuse] at h
  · exact ⟨s.cache, by simpa using h.symm⟩

theorem storeTag_eq_ok {f : CacheSets → Except Refusal CacheSets} (h : storeTag s f = .ok u) : ∃ c, u = { s with cache := c } := by
  unfold storeTag at h
  split at h
  · simp at h
  · exact withSets_eq_ok h

/-- What CACHE does to the machine: the checker's sets, or TagLo drawn, or the line of an address drawn. -/
def CacheEffect (s u : State) : Prop :=
  (∃ c, u = { s with cache := c }) ∨ u = loadTag s ∨ ∃ pa c, u = { drawLine pa s with cache := c }

theorem operateData_eq_ok {o : BitVec 3} {pa : Word} (h : operateData o pa s = .ok u) : CacheEffect s u := by
  unfold operateData at h
  split at h
  case h_2 => exact .inr (.inl (by simpa using h.symm))
  case h_3 => exact .inl (storeTag_eq_ok h)
  case h_4 =>
    split at h
    · obtain ⟨c, rfl⟩ := withSets_eq_ok h
      exact .inr (.inr ⟨pa, c, rfl⟩)
    · simp at h
  case h_8 => simp at h
  all_goals exact .inl (withSets_eq_ok h)

theorem operateInstr_eq_ok {o : BitVec 3} {pa : Word} (h : operateInstr o pa s = .ok u) : CacheEffect s u := by
  unfold operateInstr at h
  split at h
  case h_2 => exact .inr (.inl (by simpa using h.symm))
  case h_3 => exact .inl (storeTag_eq_ok h)
  case h_6 => exact .inl ⟨s.cache, by simpa using h.symm⟩
  case h_7 => simp at h
  all_goals exact .inl (withSets_eq_ok h)

end

/-! ## The frame of an effect -/

/-- What the effect of `i` leaves as it was: the registers that are no destination of `i`, next_pc but for ERET, and the scheduler's part
of the state. -/
structure EffectFrame (i : Instr) (s u : State) : Prop where
  regs : ∀ r, r ∉ destRegs i → readReg u r = readReg s r
  hi : writesHi i = false → u.hi = s.hi
  lo : writesLo i = false → u.lo = s.lo
  nextPc : i.isControl = false → u.nextPc = s.nextPc
  stepFault : u.stepFault = s.stepFault
  frame : u.frame = s.frame
  params : u.params = s.params
  refused : u.refused = s.refused

section
variable {i : Instr} {f : Flow} {s u : State}

theorem EffectFrame.refl : EffectFrame i s s := by constructor <;> intros <;> rfl

/-- A write of a destination stays in the frame. -/
theorem EffectFrame.writeReg (h : EffectFrame i s u) {r : RegIdx} (hr : r ∈ destRegs i) (v : DWord) :
    EffectFrame i s (writeReg u r v) where
  regs q hq := by
    have hne : q ≠ r := by rintro rfl; exact hq hr
    rw [readReg_writeReg_other _ _ _ _ hne]
    exact h.regs q hq
  hi hh := by rw [writeReg_hi]; exact h.hi hh
  lo hl := by rw [writeReg_lo]; exact h.lo hl
  nextPc hc := by rw [writeReg_nextPc]; exact h.nextPc hc
  stepFault := by rw [writeReg_stepFault]; exact h.stepFault
  frame := by rw [writeReg_frame]; exact h.frame
  params := by rw [writeReg_params]; exact h.params
  refused := by rw [writeReg_refused]; exact h.refused

theorem EffectFrame.of_store {va : DWord} {w : Width} {v : DWord} {mask : BitVec 8}
    (h : memWriteMasked s va w v mask = .ok u) : EffectFrame i s u := by
  obtain ⟨_, _, -, -, hu, -⟩ := memWriteMasked_eq_ok h
  rw [hu]
  constructor <;> intros <;> rfl

theorem EffectFrame.of_cache (h : CacheEffect s u) : EffectFrame i s u := by
  rcases h with ⟨c, rfl⟩ | rfl | ⟨pa, c, rfl⟩ <;> constructor <;> intros <;> rfl

/-- Every effect keeps its frame. -/
theorem Effect.keeps (h : Effect i s f u) : EffectFrame i s u := by
  cases h with
  | write hr v c d => exact .writeReg (by constructor <;> intros <;> rfl) hr v
  | moveFrom hr v =>
    have hw := EffectFrame.refl.writeReg (i := i) (s := s) hr v
    exact ⟨hw.regs, hw.hi, hw.lo, hw.nextPc, hw.stepFault, hw.frame, hw.params, hw.refused⟩
  | pair hhi hlo d =>
    exact ⟨fun _ _ => rfl, fun h => hhi.resolve_left (by simp [h]), fun h => hlo.resolve_left (by simp [h]), fun _ => rfl, rfl, rfl,
      rfl, rfl⟩
  | linked hr v pa c d =>
    have hw := EffectFrame.writeReg (i := i) (s := s) (u := { s with cache := c, draws := d }) (by constructor <;> intros <;> rfl) hr v
    exact ⟨hw.regs, hw.hi, hw.lo, hw.nextPc, hw.stepFault, hw.frame, hw.params, hw.refused⟩
  | store _ hu => exact .of_store hu
  | storeAndWrite _ hu hr x => exact .writeReg (.of_store hu) hr x
  | stay | branch => exact .refl
  | branchLink _ hr v => exact .writeReg .refl hr v
  | eret hc =>
    exact ⟨fun _ _ => rfl, fun _ => rfl, fun _ => rfl, fun h => absurd hc (by simp [h]), rfl, rfl, rfl, rfl⟩
  | cp0Write _ _ h => obtain ⟨c, ti, rfl⟩ := cp0Write_eq_ok h; constructor <;> intros <;> rfl
  | tlbRead _ _ h => obtain ⟨_, rfl⟩ := tlbRead_eq_ok h; constructor <;> intros <;> rfl
  | tlbWrite _ _ d h => obtain ⟨-, rfl⟩ := tlbWrite_eq_ok h; constructor <;> intros <;> rfl
  | tlbProbe _ _ h => obtain ⟨x, d, rfl⟩ := tlbProbe_eq_ok h; constructor <;> intros <;> rfl
  | cacheData _ _ h => exact .of_cache (operateData_eq_ok h)
  | cacheInstr _ _ h => exact .of_cache (operateInstr_eq_ok h)

/-- An instruction that is no branch, jump or ERET flows to next_pc. -/
theorem Effect.flow_next (h : Effect i s f u) (hc : i.isControl = false) : f = .next := by
  cases h with
  | branch hc' | branchLink hc' | eret hc' => exact absurd hc' (by simp [hc])
  | _ => rfl

/-! ## Instructions that complete -/

/-- An instruction that answers a state has had its effect, or has taken an exception with nothing changed before but draws. -/
theorem exec_next {i : Instr} {s t : State} (h : exec i s = .next t) :
    (∃ f u, Effect i s f u ∧ t = advance f u) ∨ ∃ e d, t = takeException e { s with draws := d } :=
  exec_ends i s t h

/-- A plain instruction that raises nothing continues at next_pc (R31). -/
theorem exec_plain_continues {i : Instr} {s t : State} (hc : i.isControl = false) (h : exec i s = .next t) (ht : t.stepFault = none) :
    t.pc = s.nextPc ∧ t.nextPc = s.nextPc + 4 ∧ t.inDelaySlot = false := by
  rcases exec_next h with ⟨f, u, he, rfl⟩ | ⟨e, d, rfl⟩
  · obtain rfl := he.flow_next hc
    have hn := he.keeps.nextPc hc
    exact ⟨hn, by rw [← hn]; rfl, rfl⟩
  · simp at ht

end

/-- Settles O9: a plain instruction flows to next_pc, in a delay slot as elsewhere, and there next_pc is the target. -/
theorem delaySlotThenTarget : Obligations.DelaySlotThenTarget := by
  refine ⟨fun i s t hc _ h ht => exec_plain_continues hc h ht, fun s target slot u hc _ h hu => ?_⟩
  obtain ⟨hpc, hnext, hds⟩ := exec_plain_continues hc h hu
  exact ⟨rfl, hpc, hnext, hds⟩

/-- Settles O11: the frame of an effect, and that an exception changes no general register, HI or LO. -/
theorem onlyDestinationsChange : Obligations.OnlyDestinationsChange := by
  intro i s t h
  rcases exec_next h with ⟨f, u, he, rfl⟩ | ⟨e, d, rfl⟩
  · have hk := he.keeps
    refine ⟨fun r hr => ?_, fun hh => ?_, fun hl => ?_⟩
    · rw [readReg_advance]; exact hk.regs r hr
    · rw [advance_hi]; exact hk.hi hh
    · rw [advance_lo]; exact hk.lo hl
  · refine ⟨fun r _ => ?_, fun _ => ?_, fun _ => ?_⟩
    · rw [readReg_takeException]; rfl
    · rw [takeException_hi]
    · rw [takeException_lo]

/-! ## The decoded word and the step -/

theorem execDecoded_instr {i : Instr} {s : State} (h : s.inDelaySlot = false ∨ i.isControl = false) :
    execDecoded (.instr i) s = exec i s := by
  rcases h with h | h <;> simp [execDecoded, Decode.Decoded.isControl, h]

/-- Settles O5, by the delay-slot check and then by the kind of decoded word. -/
theorem executeByDecoding : Obligations.ExecuteByDecoding := by
  intro d s
  refine ⟨fun hd hc => ?_, fun hd => ⟨?_, ?_, ?_, ?_, ?_⟩⟩
  · simp [execDecoded, hd, hc, refuseWith]
  · rintro rfl; simp [execDecoded, Decode.Decoded.isControl, refuseWith]
  · rintro i rfl; rcases hd with hd | hd <;> simp [execDecoded, hd, refuseWith]
  · rintro i rfl; exact execDecoded_instr hd
  · rintro rfl; simp [execDecoded, Decode.Decoded.isControl, execReserved, raiseIn]
  · rintro rfl
    cases hu : cp0Usable s <;> simp [execDecoded, Decode.Decoded.isControl, execReserved, raiseIn, hu]

/-- A step that is due acts for the external agents and then runs the instruction (R328). -/
theorem step_due {s : State} (hr : s.refused = none) (hc : canStep (openFrame s) = true) : step s = settle (runStep (openFrame s)) := by
  simp [step, schedulerStep, schedulerRun, hr, hc]

theorem externalAgents_inactive {s : State} (h : s.extActive = false) : externalAgents s = .ok s := by simp [externalAgents, h]

@[simp] theorem openFrame_extActive (s : State) : (openFrame s).extActive = s.extActive := by
  unfold openFrame; split <;> rfl

/-- Settles O6: the step of a fetched word that decodes to an instruction is that instruction's `exec`. -/
theorem stepRunsDecoded : Obligations.StepRunsDecoded := by
  refine ⟨fun s u s' w i hr hc hu hf hd hctl => ?_, fun s h => externalAgents_inactive (by simpa using h)⟩
  have hi : instructionStep u = exec i s' := by
    simp only [instructionStep, hf, hd]
    exact execDecoded_instr hctl
  rw [step_due hr hc]
  simp only [runStep, hu, bind, Except.bind, hi]
  cases exec i s' with
  | next t => rfl
  | fault f => exact nomatch f
  | refused r => rfl

/-- Settles O7. Inside a frame that is not used up, with P_GRANULARITY = Frame, the scheduler only counts the step. -/
theorem stepAccount : Obligations.StepAccount := by
  refine ⟨fun s => rfl, fun s t => ⟨rfl, rfl, rfl, rfl, rfl⟩, fun t hg hcore href hfc => ?_⟩
  have htick : stepTick (countStep t) = .ok (countStep t) := by simp [stepTick, hg]
  have hcan : canStep (countStep t) = true := by simp [canStep, countStep, hcore, href, hfc]
  simp only [afterStep, htick, bind, Except.bind, endIfDone, hcan, if_true]
  rfl

/-! ## The register file -/

/-- A register write changes the register file only. -/
theorem writeReg_regs_restored (s : State) (i : RegIdx) (v : DWord) : { writeReg s i v with regs := s.regs } = s := by
  unfold writeReg; split <;> rfl

/-- ADD of sext32 sources whose sum is no 32-bit value raises, whatever its destination (40_alu.md R126). -/
theorem exec_add_overflow {s : State} {rd rs rt : RegIdx} (hw : words2 s rs rt = true)
    (ho : fits32 ((low32 (readReg s rs)).toInt + (low32 (readReg s rt)).toInt) = false) :
    exec (.add rd rs rt) s = .next (takeException .ov s) := by
  simp [exec, execAdd, writeWordTrap, hw, ho, raiseIn]

/-- Settles O10. -/
theorem registerFile : Obligations.RegisterFile :=
  ⟨readReg_zero, writeReg_zero, readReg_writeReg_same, readReg_writeReg_other, writeReg_regs_restored,
    fun _ _ _ hw ho => exec_add_overflow hw ho⟩

end Sys2Proof.Machine
end

section
/-! PROOFS. Bits of words under masks, and the CP0 registers' fixed and zero fields (10_state.md R39 to R57) through every operation that
writes CP0. -/

namespace Sys2Proof.Machine

/-! ## Fields of words -/

section
variable {w n : Nat}

theorem getLsbD_putField (lo : Nat) (x : BitVec n) (v : BitVec w) {j : Nat} (hj : j < w) :
    (putField lo x v).getLsbD j = if lo ≤ j ∧ j < lo + n then x.getLsbD (j - lo) else v.getLsbD j := by
  simp only [putField, BitVec.getLsbD_or, BitVec.getLsbD_and, BitVec.getLsbD_not, BitVec.getLsbD_shiftLeft, BitVec.getLsbD_setWidth,
    BitVec.getLsbD_allOnes, hj, decide_true, Bool.true_and]
  by_cases hlo : lo ≤ j
  · have hw : j - lo < w := by omega
    by_cases hhi : j < lo + n
    · simp [hlo, hhi, hw, show j - lo < n by omega, show ¬ j < lo by omega]
    · simp [hhi, show ¬ j - lo < n by omega, BitVec.getLsbD_of_ge x (j - lo) (by omega)]
  · simp [hlo, show j < lo by omega]

/-- A field reads as it was put. -/
theorem extractLsb'_putField (lo : Nat) (x : BitVec n) (v : BitVec w) (h : lo + n ≤ w) : (putField lo x v).extractLsb' lo n = x := by
  apply BitVec.eq_of_getLsbD_eq
  intro j hj
  rw [BitVec.getLsbD_extractLsb', getLsbD_putField _ _ _ (by omega), if_pos (by omega)]
  simp [hj]

/-- A field put elsewhere leaves a field as it was. -/
theorem extractLsb'_putField_of_disjoint (lo start len : Nat) (x : BitVec n) (v : BitVec w) (h : lo + n ≤ start ∨ start + len ≤ lo)
    (hw : start + len ≤ w) : (putField lo x v).extractLsb' start len = v.extractLsb' start len := by
  apply BitVec.eq_of_getLsbD_eq
  intro j hj
  rw [BitVec.getLsbD_extractLsb', BitVec.getLsbD_extractLsb', getLsbD_putField _ _ _ (by omega), if_neg (by omega)]

/-! ## Words that are zero under a mask -/

theorem and_eq_zero_iff (v m : BitVec w) : v &&& m = 0 ↔ ∀ j < w, m.getLsbD j = true → v.getLsbD j = false := by
  constructor
  · intro h j _ hm
    have hj := congrArg (fun x => x.getLsbD j) h
    simpa [hm] using hj
  · intro h
    apply BitVec.eq_of_getLsbD_eq
    intro j hj
    cases hm : m.getLsbD j
    · simp [hm]
    · simp [h j hj hm]

/-- A masked word is zero outside its mask. -/
theorem and_mask_eq_zero (v : BitVec w) {k m : BitVec w} (h : k &&& m = 0) : (v &&& k) &&& m = 0 := by
  rw [BitVec.and_assoc, h]; exact BitVec.and_zero

theorem and_eq_zero_left {v m : BitVec w} (k : BitVec w) (h : v &&& m = 0) : (v &&& k) &&& m = 0 := by
  rw [BitVec.and_assoc, BitVec.and_comm k, ← BitVec.and_assoc, h]; exact BitVec.zero_and

theorem or_and_eq_zero {a b m : BitVec w} (ha : a &&& m = 0) (hb : b &&& m = 0) : (a ||| b) &&& m = 0 := by
  rw [and_eq_zero_iff] at *
  intro j hj hm
  simp [ha j hj hm, hb j hj hm]

/-- A field put where the mask has no bit leaves the word zero under the mask. -/
theorem putField_and_eq_zero {lo : Nat} (x : BitVec n) {v m : BitVec w} (h : v &&& m = 0)
    (hm : ∀ j < w, m.getLsbD j = true → ¬ (lo ≤ j ∧ j < lo + n)) : putField lo x v &&& m = 0 := by
  rw [and_eq_zero_iff] at *
  intro j hj hmj
  rw [getLsbD_putField _ _ _ hj, if_neg (hm j hj hmj)]
  exact h j hj hmj

end

/-! ## The legal CP0 registers -/

/-- `Cp0.fieldsLegal` and `Cp0.modeLegal` register by register. -/
structure Cp0Legal (c : Cp0) : Prop where
  index : c.index &&& ~~~0x8000003F = 0
  entryLo0 : c.entryLo0 &&& ~~~0x03FFFFFF = 0
  entryLo1 : c.entryLo1 &&& ~~~0x03FFFFFF = 0
  context : c.context &&& 0xF = 0
  pageMask : c.pageMask &&& ~~~0x01FFE000 = 0
  wired : c.wired &&& ~~~0x3F = 0
  entryHi : c.entryHi &&& ~~~0xC00000FFFFFFE0FF = 0
  status : c.status &&& ~~~statusBits = 0
  cause : c.cause &&& ~~~causeBits = 0
  config : c.config &&& 0xF0FFFFF0 = 0x0006E460
  watchLo : c.watchLo &&& 4 = 0
  watchHi : c.watchHi &&& ~~~0xF = 0
  xContext : c.xContext &&& 0xF = 0
  pErr : c.pErr &&& ~~~0xFF = 0
  tagLo : c.tagLo &&& ~~~0x0FFFFFC0 = 0
  mode : c.modeLegal

theorem cp0Legal_iff (c : Cp0) : Cp0Legal c ↔ c.fieldsLegal ∧ c.modeLegal :=
  ⟨fun h => ⟨⟨h.index, h.entryLo0, h.entryLo1, h.context, h.pageMask, h.wired, h.entryHi, h.status, h.cause, h.config, h.watchLo,
      h.watchHi, h.xContext, h.pErr, h.tagLo⟩, h.mode⟩,
    fun ⟨⟨hindex, hlo0, hlo1, hcontext, hpageMask, hwired, hentryHi, hstatus, hcause, hconfig, hwatchLo, hwatchHi, hxContext, hpErr,
      htagLo⟩, hmode⟩ => ⟨hindex, hlo0, hlo1, hcontext, hpageMask, hwired, hentryHi, hstatus, hcause, hconfig, hwatchLo, hwatchHi,
      hxContext, hpErr, htagLo, hmode⟩⟩

theorem Cp0Legal.reset : Cp0Legal Cp0.reset :=
  (cp0Legal_iff _).2 ⟨by unfold Cp0.fieldsLegal; decide, by unfold Cp0.modeLegal; decide⟩

section
variable {c : Cp0}

/-! ## Status and exceptions (10_state.md R49, R50, 60_exceptions.md R286, R290) -/

/-- EXL and ERL are set and cleared without leaving the legal values of Status. -/
theorem Cp0Legal.putStatus (h : Cp0Legal c) {lo : Nat} (hlo : lo = 1 ∨ lo = 2) (b : BitVec 1) :
    Cp0Legal { c with status := putField lo b c.status } :=
  { h with
    status := putField_and_eq_zero b h.status (by rcases hlo with rfl | rfl <;> decide)
    mode := by
      show (putField lo b c.status).extractLsb' 3 2 ≠ 3
      rw [extractLsb'_putField_of_disjoint _ _ _ _ _ (by omega) (by omega)]
      exact h.mode }

theorem Cp0Legal.putCause (h : Cp0Legal c) {n lo : Nat} (x : BitVec n)
    (hm : ∀ j < 32, (~~~causeBits).getLsbD j = true → ¬ (lo ≤ j ∧ j < lo + n)) : Cp0Legal { c with cause := putField lo x c.cause } :=
  { h with cause := putField_and_eq_zero x h.cause hm }

theorem Cp0Legal.recordTlbAddr (h : Cp0Legal c) (va : DWord) : Cp0Legal (recordTlbAddr va c) :=
  { h with
    context := putField_and_eq_zero _ h.context (by decide)
    xContext := putField_and_eq_zero _ (putField_and_eq_zero _ h.xContext (by decide)) (by decide)
    entryHi := putField_and_eq_zero _ (putField_and_eq_zero _ h.entryHi (by decide)) (by decide) }

theorem Cp0Legal.recordAddr (h : Cp0Legal c) (e : Exc) : Cp0Legal (recordAddr e c) := by
  cases e with
  | tlbRefill _ va | tlbInvalid _ va | tlbModified va => exact Cp0Legal.recordTlbAddr (c := { c with badVAddr := va }) { h with } va
  | addressError => exact { h with }
  | _ => exact h

theorem Cp0Legal.saveRestart {s : State} (h : Cp0Legal s.cp0) : Cp0Legal (saveRestart s) := by
  unfold Machine.saveRestart
  split
  · exact Cp0Legal.putCause (c := { s.cp0 with epc := s.pc - 4 }) { h with } _ (by decide)
  · exact Cp0Legal.putCause (c := { s.cp0 with epc := s.pc }) { h with } _ (by decide)

/-- Exception entry leaves the CP0 registers legal. -/
theorem Cp0Legal.exceptionEntry {s : State} (h : Cp0Legal s.cp0) (e : Exc) : Cp0Legal (exceptionEntry e s).cp0 := by
  have hrestart : Cp0Legal (if statusEXL s then s.cp0 else Machine.saveRestart s) := by
    split
    · exact h
    · exact h.saveRestart
  have hcode := hrestart.putCause (lo := 2) e.name.code (by decide)
  have hce := hcode.putCause (lo := 28) (causeCE e s).1 (by decide)
  exact (hce.recordAddr e).putStatus (.inl rfl) 1

/-! ## The TLB registers (44_system.md R261, R265) -/

theorem entryLoOfPage_and_mask (p : TlbPage) (g : Bool) : entryLoOfPage p g &&& ~~~0x03FFFFFF = 0 := by
  rw [and_eq_zero_iff]
  intro j hj hm
  have hge : 26 ≤ j := by
    revert hm; revert j; decide
  simp only [entryLoOfPage, BitVec.getLsbD_setWidth]
  rw [BitVec.getLsbD_of_ge _ j (by omega)]
  simp

theorem pageMaskOfEntry_and_mask (m : BitVec 12) : (m ++ (0 : BitVec 13)).setWidth 32 &&& ~~~0x01FFE000 = 0 := by
  rw [and_eq_zero_iff]
  intro j hj hm
  have hout : j < 13 ∨ 25 ≤ j := by
    revert hm; revert j; decide
  rw [BitVec.getLsbD_setWidth, BitVec.getLsbD_append]
  rcases hout with h | h
  · simp [h]
  · simp [show ¬ j < 13 by omega, BitVec.getLsbD_of_ge m (j - 13) (by omega)]

theorem entryHiOfEntry_and_mask (e : TlbEntry) : entryHiOfEntry e &&& ~~~0xC00000FFFFFFE0FF = 0 := by
  rw [and_eq_zero_iff]
  intro j hj hm
  have hout : (8 ≤ j ∧ j < 13) ∨ (40 ≤ j ∧ j < 62) := by
    revert hm; revert j; decide
  simp only [entryHiOfEntry, BitVec.getLsbD_append]
  rcases hout with ⟨h1, h2⟩ | ⟨h1, h2⟩
  · simp [show ¬ j < 8 by omega, show j - 8 < 5 by omega]
  · simp [show ¬ j < 8 by omega, show ¬ j - 8 < 5 by omega, show ¬ j - 8 - 5 < 27 by omega, show j - 8 - 5 - 27 < 22 by omega]

theorem Cp0Legal.ofEntry (h : Cp0Legal c) (e : TlbEntry) : Cp0Legal (cp0OfEntry e c) :=
  { h with
    pageMask := pageMaskOfEntry_and_mask e.mask
    entryHi := entryHiOfEntry_and_mask e
    entryLo0 := entryLoOfPage_and_mask e.even e.g
    entryLo1 := entryLoOfPage_and_mask e.odd e.g }

theorem Cp0Legal.tlbProbe {s u : State} (h : Cp0Legal s.cp0) (hu : tlbProbe s = .ok u) : Cp0Legal u.cp0 := by
  unfold Machine.tlbProbe at hu
  split at hu
  · cases hu
    refine { h with index := or_and_eq_zero (by decide) ?_ }
    rw [and_eq_zero_iff]
    intro j hj hm
    have hge : 6 ≤ j := by
      revert hm; revert j; decide
    rw [BitVec.getLsbD_setWidth, BitVec.getLsbD_of_ge _ j hge, Bool.and_false]
  · next i _ =>
    cases hu
    have hbits : ∀ k : Fin 32, BitVec.ofNat 32 k.val &&& ~~~(0x8000003F : Word) = 0 := by decide
    exact { h with index := hbits i }
  · simp at hu

/-! ## MTC0 and DMTC0 (44_system.md R256) -/

/-- A written Status keeps the mode of the value written. -/
theorem status_write_mode {v : DWord} (h : v.extractLsb' 3 2 ≠ 3) : (low32 v &&& 0xFF57FFFF).extractLsb' 3 2 ≠ 3 := by
  have hv : (low32 v &&& 0xFF57FFFF).extractLsb' 3 2 = v.extractLsb' 3 2 := by
    apply BitVec.eq_of_getLsbD_eq
    intro j hj
    have hk : ∀ j < 2, (0xFF57FFFF : Word).getLsbD (3 + j) = true := by decide
    simp only [low32, BitVec.getLsbD_extractLsb', BitVec.getLsbD_and, BitVec.getLsbD_setWidth, hk j hj]
    simp [show 3 + j < 32 by omega]
  rw [hv]; exact h

/-- A write of Config with BE = 1 keeps its fixed fields. -/
theorem config_write_fixed {old v : Word} (hold : old &&& 0xF0FFFFF0 = 0x0006E460) (hbe : v.getLsbD 15 = true) :
    ((old &&& ~~~configWritable) ||| (v &&& configWritable)) &&& 0xF0FFFFF0 = 0x0006E460 := by
  apply BitVec.eq_of_getLsbD_eq
  intro j hj
  have hbit : (old &&& 0xF0FFFFF0).getLsbD j = (0x0006E460 : Word).getLsbD j := by rw [hold]
  have hmask : ∀ j < 32, configWritable.getLsbD j = true → (0xF0FFFFF0 : Word).getLsbD j = true → j = 15 := by decide
  simp only [BitVec.getLsbD_or, BitVec.getLsbD_and, BitVec.getLsbD_not, hj, decide_true, Bool.true_and] at hbit ⊢
  cases hc : configWritable.getLsbD j
  · simpa only [Bool.not_false, Bool.and_true, Bool.and_false, Bool.or_false] using hbit
  · cases hm : (0xF0FFFFF0 : Word).getLsbD j
    · simpa only [hm, Bool.and_false] using hbit
    · obtain rfl := hmask j hj hc hm
      rw [hbe, Bool.not_true, Bool.and_false]
      decide

end

end Sys2Proof.Machine
end

section
/-! PROOFS. The invariant `Inv` through every operation of the machine: the state updates, the effects of instructions, the fetch and the
scheduler; and at reset. -/

namespace Sys2Proof.Machine

section
variable {s u t : State}

/-! ## State updates -/

theorem Inv.cp0Legal (h : Inv s) : Cp0Legal s.cp0 := (cp0Legal_iff _).2 ⟨h.fields, h.mode⟩

theorem Inv.withCp0 (h : Inv s) {c : Cp0} (hc : Cp0Legal c) : Inv { s with cp0 := c } :=
  { h with fields := ((cp0Legal_iff c).1 hc).1, mode := ((cp0Legal_iff c).1 hc).2 }

theorem Inv.withMem (h : Inv s) {m : Memory} (hm : m.wf = true) : Inv { s with mem := m } := { h with memory := hm }

/-- Neither the checker's sets nor the draws are part of the invariant. -/
theorem Inv.bookkeeping (h : Inv s) (c : CacheSets) (d : Nat) : Inv { s with cache := c, draws := d } := { h with }

theorem Inv.writeReg (h : Inv s) (r : RegIdx) (v : DWord) : Inv (writeReg s r v) := by
  unfold Machine.writeReg
  split
  · exact h
  · exact { h with }

theorem Inv.linked (h : Inv s) (r : RegIdx) (v : DWord) (pa : Word) : Inv (linked s r v pa) := by
  have hw := h.writeReg r v
  exact { hw.withCp0 (c := { (Machine.writeReg s r v).cp0 with llAddr := (pa.extractLsb' 4 28).setWidth 32 })
    { hw.cp0Legal with } with }

theorem Inv.advance (h : Inv s) (f : Flow) : Inv (advance f s) := by
  cases f <;> exact { h with }

theorem Inv.exceptionEntry (h : Inv s) (e : Exc) : Inv (exceptionEntry e s) := by
  obtain ⟨c, d, v, he, -⟩ := exceptionEntry_shape e s
  have hc : Cp0Legal c := by
    have := h.cp0Legal.exceptionEntry e
    rwa [he] at this
  rw [he]
  exact { h.withCp0 hc with }

theorem Inv.takeException (h : Inv s) (e : Exc) : Inv (takeException e s) := { h.exceptionEntry e with }

theorem Inv.exceptionReturn (h : Inv s) : Inv (exceptionReturn s) := by
  have hc := h.cp0Legal.putStatus (lo := if statusERL s then 2 else 1) (by split <;> simp) (bit false)
  exact { h.withCp0 hc with }

/-- The hazard counters of a state that meets the invariant count down within their range. -/
theorem Inv.beginStep (h : Inv s) : Inv (beginStep s) := by
  obtain ⟨hhi, hlo, hfrac, hvi⟩ := h.counters
  exact { h with counters := ⟨Nat.le_trans (Nat.sub_le _ _) hhi, Nat.le_trans (Nat.sub_le _ _) hlo, hfrac, hvi⟩ }

/-! ## The bus -/

/-- A store of the machine changes no VI counter. -/
theorem physWriteMasked_vi_cycles {pa : Word} {w : Width} {v : DWord} {mask : BitVec 8} (h : physWriteMasked s pa w v mask = .ok u) :
    u.vi.cycles = s.vi.cycles := by
  unfold physWriteMasked at h
  repeat' split at h
  case h_6.isTrue.isTrue =>
    obtain rfl := Except.ok.inj h
    unfold viWrite
    split <;> rfl
  all_goals first
    | (obtain rfl := Except.ok.inj h; rfl)
    | simp at h

theorem memWriteMasked_vi_cycles {va : DWord} {w : Width} {v : DWord} {mask : BitVec 8} (h : memWriteMasked s va w v mask = .ok u) :
    u.vi.cycles = s.vi.cycles := by
  obtain ⟨pa, cached, ht, hw, -, -⟩ := memWriteMasked_eq_ok h
  simp only [memWriteMasked, ht, bind, Except.bind, watchCheck_ok hw] at h
  cases hc : cacheCheck pa .store cached s with
  | error e => rw [hc] at h; simp [orRefuse] at h
  | ok s1 =>
    obtain ⟨c, rfl⟩ := cacheCheck_eq_ok hc
    rw [hc] at h
    simp only [orRefuse] at h
    cases hp : physWriteMasked { s with cache := c } (alignDown pa w) w v mask with
    | error e => rw [hp] at h; simp at h
    | ok s2 =>
      rw [hp] at h
      obtain rfl := Except.ok.inj h
      have hvi := physWriteMasked_vi_cycles hp
      exact hvi

theorem Inv.memWriteMasked (h : Inv s) {va : DWord} {w : Width} {v : DWord} {mask : BitVec 8}
    (hu : memWriteMasked s va w v mask = .ok u) : Inv u := by
  have hvi := memWriteMasked_vi_cycles hu
  obtain ⟨pa, _, -, -, heq, hmem⟩ := memWriteMasked_eq_ok hu
  have hwf : u.mem.wf = true := by
    rcases hmem with hm | hm <;> rw [hm]
    · exact h.memory
    · exact Memory.wf_writeBE _ _ _ _ _ h.memory
  obtain ⟨hhi, hlo, hfrac, hvis⟩ := h.counters
  rw [heq]
  exact { h with memory := hwf, counters := ⟨hhi, hlo, hfrac, by rw [← hvi] at hvis; exact hvis⟩ }

/-! ## CP0, TLB and CACHE -/

theorem Inv.cp0Write (h : Inv s) {n : RegIdx} {v : DWord} (hu : cp0Write s n v = .ok u) : Inv u := by
  have hc := h.cp0Legal
  unfold Machine.cp0Write at hu
  simp only at hu
  split at hu
  case h_9 => obtain rfl := Except.ok.inj hu; exact { h with }
  case h_10 =>
    split at hu
    · simp at hu
    · next hmode =>
      obtain rfl := Except.ok.inj hu
      exact h.withCp0 { hc with status := and_mask_eq_zero _ (by decide), mode := status_write_mode hmode }
  case h_11 => obtain rfl := Except.ok.inj hu; exact h.withCp0 (hc.putCause _ (by decide))
  case h_13 =>
    split at hu
    · next hbe =>
      obtain rfl := Except.ok.inj hu
      exact h.withCp0 { hc with config := config_write_fixed hc.config (by simpa [low32] using hbe) }
    · simp at hu
  all_goals obtain rfl := Except.ok.inj hu
  case h_1 => exact h.withCp0 { hc with index := and_mask_eq_zero _ (by decide) }
  case h_2 => exact h.withCp0 { hc with entryLo0 := and_mask_eq_zero _ (by decide) }
  case h_3 => exact h.withCp0 { hc with entryLo1 := and_mask_eq_zero _ (by decide) }
  case h_4 => exact h.withCp0 { hc with context := or_and_eq_zero (and_mask_eq_zero _ (by decide)) (and_mask_eq_zero _ (by decide)) }
  case h_5 => exact h.withCp0 { hc with pageMask := and_mask_eq_zero _ (by decide) }
  case h_6 => exact h.withCp0 { hc with wired := and_mask_eq_zero _ (by decide) }
  case h_8 => exact h.withCp0 { hc with entryHi := and_mask_eq_zero _ (by decide) }
  case h_15 => exact h.withCp0 { hc with watchLo := and_mask_eq_zero _ (by decide) }
  case h_16 => exact h.withCp0 { hc with watchHi := and_mask_eq_zero _ (by decide) }
  case h_17 => exact h.withCp0 { hc with xContext := or_and_eq_zero (and_mask_eq_zero _ (by decide)) (and_mask_eq_zero _ (by decide)) }
  case h_18 => exact h.withCp0 { hc with pErr := and_mask_eq_zero _ (by decide) }
  case h_19 => exact h.withCp0 { hc with tagLo := and_mask_eq_zero _ (by decide) }
  case h_21 => exact h
  all_goals exact h.withCp0 { hc with }

theorem Inv.tlbWrite (h : Inv s) {d : Nat} {n : Fin 32} (hu : tlbWrite { s with draws := d } n = .ok u) : Inv u := by
  obtain ⟨hm, rfl⟩ := tlbWrite_eq_ok hu
  refine { h with tlb := fun j => ?_ }
  simp only [Fin.getElem_fin, Vector.getElem_set]
  split
  · exact hm
  · exact h.tlb j

theorem Inv.tlbProbe (h : Inv s) (hu : tlbProbe s = .ok u) : Inv u := by
  have hc := h.cp0Legal.tlbProbe hu
  obtain ⟨x, d, rfl⟩ := tlbProbe_eq_ok hu
  exact { h.withCp0 hc with }

theorem Inv.cacheEffect (h : Inv s) (hu : CacheEffect s u) : Inv u := by
  rcases hu with ⟨c, rfl⟩ | rfl | ⟨pa, c, rfl⟩
  · exact { h with }
  · exact { h.withCp0 (c := { s.cp0 with tagLo := low32 (draw s).1 &&& 0x0FFFFFC0 })
      { h.cp0Legal with tagLo := and_mask_eq_zero _ (by decide) } with }
  · exact { h.withMem (Memory.wf_writeBE _ _ _ _ _ (Memory.wf_writeBE _ _ _ _ _ h.memory)) with }

/-! ## Instructions -/

/-- The effect of an instruction keeps the invariant. -/
theorem Inv.effect (h : Inv s) {i : Instr} {f : Flow} (he : Effect i s f u) : Inv u := by
  cases he with
  | write _ v c d => exact (h.bookkeeping c d).writeReg _ v
  | @moveFrom r _ v _ _ hhi hlo =>
    have hw := h.writeReg r v
    obtain ⟨hh, hl, -, -⟩ := h.counters
    obtain ⟨-, -, hfrac, hvi⟩ := hw.counters
    exact { hw with counters := ⟨by rcases hhi with rfl | rfl; exacts [hh, Nat.le_refl _],
      by rcases hlo with rfl | rfl; exacts [hl, Nat.le_refl _], hfrac, hvi⟩ }
  | pair => exact { h with }
  | linked _ v pa c d => exact (h.bookkeeping c d).linked _ v pa
  | store _ hu => exact h.memWriteMasked hu
  | storeAndWrite _ hu _ x => exact (h.memWriteMasked hu).writeReg _ x
  | stay | branch => exact h
  | branchLink _ _ v => exact h.writeReg _ v
  | eret => exact h.exceptionReturn
  | cp0Write _ _ hu => exact h.cp0Write hu
  | tlbRead _ _ hu =>
    obtain ⟨_, rfl⟩ := tlbRead_eq_ok hu
    exact h.withCp0 (h.cp0Legal.ofEntry _)
  | tlbWrite _ _ d hu => exact h.tlbWrite hu
  | tlbProbe _ _ hu => exact h.tlbProbe hu
  | cacheData _ _ hu => exact h.cacheEffect (operateData_eq_ok hu)
  | cacheInstr _ _ hu => exact h.cacheEffect (operateInstr_eq_ok hu)

/-- What the instruction cycle keeps: the invariant, the frame in progress and the parameters. -/
structure StepKeeps (s t : State) : Prop where
  inv : Inv t
  frame : t.frame = s.frame
  params : t.params = s.params

theorem takeException_keeps (h : Inv s) (e : Exc) (d : Nat) : StepKeeps s (takeException e { s with draws := d }) where
  inv := (h.bookkeeping s.cache d).takeException e
  frame := by rw [takeException_frame]
  params := by rw [takeException_params]

theorem exec_keeps (h : Inv s) {i : Instr} (ht : exec i s = .next t) : StepKeeps s t := by
  rcases exec_next ht with ⟨f, u, he, rfl⟩ | ⟨e, d, rfl⟩
  · exact ⟨(h.effect he).advance f, by rw [advance_frame]; exact he.keeps.frame, by rw [advance_params]; exact he.keeps.params⟩
  · exact takeException_keeps h e d

theorem execDecoded_keeps (h : Inv s) {d : Decode.Decoded} (ht : execDecoded d s = .next t) : StepKeeps s t := by
  have hraise : ∀ e, raiseIn s e = .next t → StepKeeps s t := by
    intro e he
    obtain rfl : takeException e s = t := by simpa [raiseIn] using he
    exact takeException_keeps h e s.draws
  unfold execDecoded at ht
  split at ht
  · simp [refuseWith] at ht
  · cases d with
    | instr i => exact exec_keeps h ht
    | nonzeroReserved | unmodelled => simp [refuseWith] at ht
    | reserved cop0 =>
      simp only [execReserved] at ht
      split at ht
      · exact hraise _ ht
      · exact hraise _ ht

/-! ## The fetch -/

/-- A fetch changes the checker's sets and the draws only. -/
theorem fetch_eq_ok {w : Word} (h : fetch s = .ok (w, u)) : ∃ c d, u = { s with cache := c, draws := d } := by
  unfold fetch at h
  split at h
  · simp at h
  · split at h
    · next pa cached _ =>
      unfold fetchAt at h
      split at h
      · split at h
        · next s' hc =>
          obtain ⟨c, rfl⟩ := cacheCheck_eq_ok hc
          split at h
          · next v s'' hp =>
            obtain ⟨d, rfl⟩ := physRead_eq_ok hp
            simp only [orRefuse, Except.ok.injEq, Prod.mk.injEq] at h
            exact ⟨c, d, h.2.symm⟩
          · simp [orRefuse] at h
        · simp [orRefuse] at h
      · simp [orRefuse] at h
    · simp at h

/-- A fetch raises in the state as it was. -/
theorem fetch_raise {e : Exc} (h : fetch s = .error (.raise e u)) : u = s := by
  unfold fetch at h
  split at h
  · cases h; rfl
  · split at h
    · next pa cached _ => cases hf : fetchAt pa cached s <;> simp [hf, orRefuse] at h
    · next st hst =>
      obtain rfl : st = .raise e u := by simpa using h
      exact (translate_raise hst).1

/-- An instruction cycle keeps the invariant, the frame in progress and the parameters. -/
theorem instructionStep_keeps (h : Inv s) (ht : instructionStep s = .next t) : StepKeeps s t := by
  have hb := h.beginStep
  have of_beginStep : StepKeeps (beginStep s) t → StepKeeps s t := fun hk => ⟨hk.inv, hk.frame, hk.params⟩
  unfold instructionStep at ht
  split at ht
  · next w u hf =>
    obtain ⟨c, d, rfl⟩ := fetch_eq_ok hf
    have hk := execDecoded_keeps (hb.bookkeeping c d) ht
    exact of_beginStep ⟨hk.inv, hk.frame, hk.params⟩
  · next e u hf =>
    obtain rfl := fetch_raise hf
    obtain rfl : takeException e (beginStep s) = t := by simpa [raiseIn] using ht
    exact of_beginStep (takeException_keeps hb e (beginStep s).draws)
  · simp [refuseWith] at ht

/-! ## The scheduler -/

theorem externalStores_wf {l : List Host.Cell} (h : s.mem.wf = true) (hu : externalStores l s = .ok u) : u.mem.wf = true := by
  induction l generalizing s with
  | nil => cases hu; exact h
  | cons c l ih =>
    obtain ⟨a, v⟩ := c
    simp only [externalStores] at hu
    repeat' split at hu
    · exact ih (Memory.wf_write _ _ _ h) hu
    · simp at hu
    · exact ih (Memory.wf_write _ _ _ h) hu
    · exact ih h hu

theorem externalAgents_keeps (h : Inv s) (hu : externalAgents s = .ok u) : StepKeeps s u := by
  obtain ⟨m, b, c, d, hshape⟩ := externalAgents_eq_ok hu
  have hwf : u.mem.wf = true := by
    unfold externalAgents at hu
    split at hu
    · have hstores := orMark_eq_ok hu
      exact externalStores_wf (by exact h.memory) hstores
    · cases hu; exact h.memory
  rw [hshape] at hwf ⊢
  exact ⟨{ h.withMem hwf with }, rfl, rfl⟩

/-- A tick leaves the timer's fraction and the VI's counter in their ranges, whatever they were. -/
theorem Inv.tickDevices (h : Inv s) (n : Nat) : Inv (tickDevices n s) := by
  obtain ⟨hbudget, -, hdiv, -⟩ := h.params
  obtain ⟨hhi, hlo, -, -⟩ := h.counters
  have hfrac : (s.timer.countFrac + n) % s.params.countDiv < s.params.countDiv := Nat.mod_lt _ hdiv
  have hvi : (BitVec.ofNat 64 ((s.vi.cycles.toNat + n) % 2 ^ 64 % s.params.budget)).toNat < s.params.budget := by
    rw [BitVec.toNat_ofNat]
    exact Nat.lt_of_le_of_lt (Nat.mod_le _ _) (Nat.mod_lt _ hbudget)
  exact { h.withCp0 (c := { s.cp0 with count := _ }) { h.cp0Legal with } with counters := ⟨hhi, hlo, hfrac, hvi⟩ }

theorem devTick_keeps (h : Inv s) {n : Nat} (hu : devTick n s = .ok u) : StepKeeps s u := by
  unfold devTick at hu
  split at hu
  · have hk := externalAgents_keeps (h.tickDevices n) hu
    exact ⟨hk.inv, hk.frame, hk.params⟩
  · cases hu; exact ⟨h, rfl, rfl⟩

theorem Inv.interruptCheck (h : Inv s) : Inv (interruptCheck s) := by
  rcases interruptCheck_cases s with ⟨-, hi⟩ | ⟨-, hi⟩ <;> rw [hi]
  · exact h.exceptionEntry .int
  · exact h

theorem Inv.closeFrame (h : Inv s) : Inv (closeFrame s) := { h with }

theorem Inv.openFrame (h : Inv s) : Inv (openFrame s) := by
  unfold Machine.openFrame
  split
  · exact h
  · exact { h with frame := ⟨Nat.le_refl 0, Nat.add_pos_left h.params.1 _⟩ }

theorem Inv.endFrame (h : Inv s) (hu : endFrame s = .ok u) : Inv u := by
  obtain ⟨v, hv, rfl⟩ := endFrame_eq_ok hu
  exact (devTick_keeps h hv).inv.interruptCheck.closeFrame

/-- A step that began within the budget is counted within the frame's range. -/
theorem Inv.countStep (h : Inv s) (hfc : s.frame.fc < s.params.budget) : Inv (countStep s) :=
  { h with frame := ⟨Nat.le_trans h.frame.1 (Nat.le_add_right _ _), Nat.add_lt_add_right hfc _⟩ }

theorem Inv.stepTick (h : Inv s) (hu : stepTick s = .ok u) : Inv u := by
  rcases stepTick_eq_ok hu with ⟨-, rfl⟩ | ⟨-, v, hv, rfl⟩
  · exact h
  · have hk := (devTick_keeps h hv).inv
    exact Inv.interruptCheck { hk with frame := ⟨Nat.le_refl _, hk.frame.2⟩ }

theorem Inv.afterStep (h : Inv s) (hfc : s.frame.fc < s.params.budget) (hu : afterStep s = .ok u) : Inv u := by
  obtain ⟨v, hv, hend⟩ := afterStep_eq_ok hu
  have hi := (h.countStep hfc).stepTick hv
  unfold endIfDone at hend
  split at hend
  · cases hend; exact hi
  · exact hi.endFrame hend

/-- The step that is due keeps the invariant: the instruction leaves the frame's count, which was below the budget. -/
theorem Inv.runStep (h : Inv s) (hc : canStep s = true) (hu : runStep s = .ok u) : Inv u := by
  obtain ⟨a, v, ha, hv, hafter⟩ := runStep_eq_ok hu
  have hka := externalAgents_keeps h ha
  have hkv := instructionStep_keeps hka.inv hv
  have hfc : v.frame.fc < v.params.budget := by
    rw [hkv.frame, hka.frame, hkv.params, hka.params]
    simp only [canStep, Bool.and_eq_true, decide_eq_true_eq] at hc
    exact hc.2
  exact hkv.inv.afterStep hfc hafter

end

/-- Settles O60: a step is the step that is due in the open frame, or the end of the frame, and each keeps the invariant. -/
theorem stepKeepsInvariant : Obligations.StepKeepsInvariant := by
  intro s t h ht
  rcases (step_next ht).2 with ⟨hc, hrun⟩ | ⟨-, hend⟩
  · exact h.openFrame.runStep hc hrun
  · exact h.openFrame.endFrame hend

end Sys2Proof.Machine
end

section
/-! PROOFS. Reset (10_state.md R71, 70_reset_and_hazards.md R318, R319): memory lists filtered and joined, the values after reset, and the
invariant there. -/

namespace Sys2Proof.Machine

/-! ## Memory lists filtered and joined -/

theorem Memory.risingFrom_filter (m : Memory) (keep : Host.Cell → Bool) (lo : Nat) (h : Memory.risingFrom lo m = true) :
    Memory.risingFrom lo (m.filter keep) = true := by
  induction m generalizing lo with
  | nil => rfl
  | cons c m ih =>
    simp only [Memory.risingFrom, Bool.and_eq_true, decide_eq_true_eq] at h
    obtain ⟨hlo, hm⟩ := h
    rw [List.filter_cons]
    split
    · simp only [Memory.risingFrom, Bool.and_eq_true, decide_eq_true_eq]
      exact ⟨hlo, ih c.1 hm⟩
    · exact Memory.risingFrom_mono _ c.1 lo (Nat.le_of_lt hlo) (ih c.1 hm)

theorem Memory.rising_of_risingFrom (m : Memory) (lo : Nat) (h : Memory.risingFrom lo m = true) : Memory.rising m = true := by
  cases m with
  | nil => rfl
  | cons c m =>
    simp only [Memory.risingFrom, Bool.and_eq_true] at h
    exact h.2

theorem Memory.rising_filter (m : Memory) (keep : Host.Cell → Bool) (h : Memory.rising m = true) :
    Memory.rising (m.filter keep) = true := by
  cases m with
  | nil => rfl
  | cons c m =>
    have hm := Memory.risingFrom_filter m keep c.1 h
    rw [List.filter_cons]
    split
    · exact hm
    · exact Memory.rising_of_risingFrom _ c.1 hm

/-- Cells left out keep the canonical form. -/
theorem Memory.wf_filter (m : Memory) (keep : Host.Cell → Bool) (h : m.wf = true) : Memory.wf (m.filter keep) = true := by
  simp only [Memory.wf, Bool.and_eq_true, List.all_eq_true] at h ⊢
  exact ⟨Memory.rising_filter m keep h.1, fun c hc => h.2 c (List.mem_of_mem_filter hc)⟩

/-- A memory filtered by address reads as before where the filter keeps the address, and as unlisted elsewhere. -/
theorem Memory.read_filter (m : Memory) (keep : Nat → Bool) (a : Nat) :
    Memory.read (m.filter (fun c => keep c.1)) a = if keep a then m.read a else unlistedByte := by
  induction m with
  | nil => simp [Memory.read]
  | cons c m ih =>
    obtain ⟨k, v⟩ := c
    by_cases hka : k = a
    · subst hka
      cases hk : keep k <;> simp_all [Memory.read]
    · cases hk : keep k <;> simp [hk, hka, Memory.read, ih]

theorem Memory.read_append_of_absent (m n : Memory) (a : Nat) (h : ∀ c ∈ m, c.1 ≠ a) : Memory.read (m ++ n) a = n.read a := by
  induction m with
  | nil => rfl
  | cons c m ih =>
    obtain ⟨k, v⟩ := c
    rw [List.cons_append, Memory.read_tail _ _ _ _ (Ne.symm (h _ List.mem_cons_self))]
    exact ih fun c hc => h c (List.mem_cons_of_mem _ hc)

theorem Memory.read_append_of_unlisted (m n : Memory) (a : Nat) (h : n.read a = unlistedByte) : Memory.read (m ++ n) a = m.read a := by
  induction m with
  | nil => exact h
  | cons c m ih =>
    obtain ⟨k, v⟩ := c
    simp only [List.cons_append, Memory.read, ih]

/-! ## Memory after reset -/

theorem survivesReset_iff (p : Params) (a : Nat) : survivesReset p a = true ↔
    (0x10000000 ≤ a ∧ a < 0x10000000 + p.romWindow) ∨ (0x1FC00000 ≤ a ∧ a < 0x1FC007C0) := by
  unfold survivesReset
  rw [Bool.or_eq_true, decide_eq_true_iff, decide_eq_true_iff]
  rfl

/-- RDRAM, SP DMEM and SP IMEM read P_RAM_INIT after a reset. -/
theorem resetMemory_read_ram (p : Params) (m : Memory) {a : Nat} (h : a < 0x04002000 ∧ (a < p.rdramSize ∨ 0x04000000 ≤ a)) :
    (resetMemory p m).read a = Memory.read p.ramInit a := by
  have hrom : survivesReset p a = false := by
    rw [← Bool.not_eq_true, survivesReset_iff]
    omega
  unfold resetMemory Params.ramContents
  rw [Memory.read_append_of_unlisted _ _ _ (by rw [Memory.read_filter _ (survivesReset p), hrom]; rfl),
    Memory.read_filter _ (fun k => decide (k < 0x04002000 ∧ (k < p.rdramSize ∨ 0x04000000 ≤ k))), if_pos (by simpa using h)]

/-- The cartridge image and the PIF ROM read as before a reset. -/
theorem resetMemory_read_rom (p : Params) (m : Memory) {a : Nat} (h : survivesReset p a = true) :
    (resetMemory p m).read a = m.read a := by
  have habsent : ∀ c ∈ p.ramContents, c.1 ≠ a := by
    intro c hc hca
    have hlow : c.1 < 0x04002000 := by
      have hkeep := List.of_mem_filter hc
      simp only [decide_eq_true_eq] at hkeep
      exact hkeep.1
    rw [survivesReset_iff] at h
    omega
  unfold resetMemory
  rw [Memory.read_append_of_absent _ _ _ habsent, Memory.read_filter _ (survivesReset p), if_pos h]

/-! ## The statements -/

/-- Config after reset: the EC field of the parameters over the fixed fields (10_state.md R53). -/
theorem configValue_reset (p : Params) :
    configValue p Cp0.reset.config = (p.configEC.setWidth 32 <<< 28) ||| 0x0006E460 := by
  unfold configValue putField
  rw [BitVec.or_comm]
  congr 1

@[simp] theorem readReg_resetOp (s : State) (r : RegIdx) : readReg (resetOp s) r = 0 := by
  unfold readReg
  split
  · rfl
  · exact Vector.getElem_replicate _

/-- Settles O57: the elements by the definition of reset, the two parts of memory by the lemmas above. -/
theorem resetValues : Obligations.ResetValues := by
  rintro s _ rfl
  refine ⟨readReg_resetOp s, rfl, rfl, rfl, rfl, rfl, rfl, rfl, configValue_reset s.params, fun i => Vector.getElem_replicate _, rfl, rfl,
    rfl, rfl, rfl, rfl, rfl, rfl, rfl, rfl, rfl, fun a ha => resetMemory_read_ram _ _ (by omega),
    fun a ha => resetMemory_read_rom _ _ ((survivesReset_iff _ a).2 ha), rfl, rfl, rfl, rfl, rfl⟩

/-- A machine of legal parameters meets the invariant at reset. -/
theorem inv_fresh {p : Params} (hp : p.legal) (hm : Memory.wf p.ramInit = true) : Inv (State.fresh p) where
  memory := Memory.wf_filter _ _ hm
  fields := ((cp0Legal_iff _).1 .reset).1
  mode := ((cp0Legal_iff _).1 .reset).2
  counters := ⟨Nat.zero_le _, Nat.zero_le _, hp.2.2.1, hp.1⟩
  tlb i := by
    have hentry : (State.fresh p).tlb[i] = TlbEntry.zero := Vector.getElem_replicate _
    rw [hentry]
    decide
  frame := ⟨Nat.le_refl 0, Nat.add_pos_left hp.1 _⟩
  mark := rfl
  params := hp

theorem Params.default_legal : Params.default.legal := by unfold Params.legal; decide

/-- Settles O59. -/
theorem resetMeetsInvariant : Obligations.ResetMeetsInvariant :=
  ⟨inv_fresh Params.default_legal Memory.wf_nil, fun _ hp hm => inv_fresh hp hm⟩

end Sys2Proof.Machine
end

section
/-! PROOFS. The reads of CP0 registers and the TLB read and write (44_system.md R255 to R263, 10_state.md R40, R43). -/

namespace Sys2Proof.Machine

/-! ## Small words and masked fields -/

/-- A value below 2^31 is the sign extension of its low word. -/
theorem sext32_low32_of_lt {v : DWord} (h : v.toNat < 2 ^ 31) : sext32 (low32 v) = v := by
  have hmsb : (low32 v).msb = false := by
    rw [BitVec.msb_eq_decide]
    simp only [low32, BitVec.toNat_setWidth, decide_eq_false_iff_not]
    omega
  unfold sext32
  rw [BitVec.signExtend_eq_setWidth_of_msb_false hmsb]
  apply BitVec.eq_of_toNat_eq
  simp only [low32, BitVec.toNat_setWidth]
  omega

@[simp] theorem low32_zext32 (w : Word) : low32 (zext32 w) = w := BitVec.setWidth_setWidth_of_le w (by decide)

/-- A field put where the mask has no bit leaves the masked word as it was. -/
theorem putField_and_mask {w n lo : Nat} (x : BitVec n) (v m : BitVec w)
    (hm : ∀ j < w, m.getLsbD j = true → ¬ (lo ≤ j ∧ j < lo + n)) : putField lo x v &&& m = v &&& m := by
  apply BitVec.eq_of_getLsbD_eq
  intro j hj
  rw [BitVec.getLsbD_and, BitVec.getLsbD_and]
  cases hmj : m.getLsbD j
  · rw [Bool.and_false, Bool.and_false]
  · rw [getLsbD_putField _ _ _ hj, if_neg (hm j hj hmj)]

/-! ## What CP0Read answers (R255) -/

/-- The registers that a read answers as they are stored, or as parameters fix them. -/
theorem cp0Read_stored (s : State) : ∀ p ∈ ([(0, zext32 s.cp0.index), (2, s.cp0.entryLo0), (3, s.cp0.entryLo1), (4, s.cp0.context),
        (5, zext32 s.cp0.pageMask), (6, zext32 s.cp0.wired), (8, s.cp0.badVAddr), (9, zext32 s.cp0.count),
        (10, s.cp0.entryHi), (11, zext32 s.cp0.compare), (12, zext32 s.cp0.status), (14, s.cp0.epc), (15, zext32 s.params.prid),
        (17, zext32 s.cp0.llAddr), (18, zext32 s.cp0.watchLo), (19, zext32 s.cp0.watchHi), (20, s.cp0.xContext),
        (26, zext32 s.cp0.pErr), (27, 0), (28, zext32 s.cp0.tagLo), (29, 0), (30, s.cp0.errorEpc)] : List (RegIdx × DWord)),
    cp0Read s p.1 = (p.2, s) := by
  intro p hp
  fin_cases hp <;> rfl

theorem cp0Read_reserved (s : State) {rd : RegIdx} (h : rd ∈ ([7, 21, 22, 23, 24, 25, 31] : List RegIdx)) :
    cp0Read s rd = draw s := by
  fin_cases h <;> rfl

/-- The bits of IP (60_exceptions.md R298): IP7 the timer, IP6 to IP3 zero, IP2 the MI, IP1 and IP0 as stored. -/
theorem getLsbD_pendingIP (s : State) {k : Nat} (hk : k < 8) : (pendingIP s).getLsbD k =
    if k = 7 then s.timer.pending else if k = 2 then s.mi.line else if 3 ≤ k then false else s.cp0.cause.getLsbD (8 + k) := by
  simp only [pendingIP, bit, BitVec.getLsbD_append, BitVec.getLsbD_extractLsb', BitVec.getLsbD_ofBool]
  by_cases hstored : k < 2
  · simp [hstored, show k ≠ 7 by omega, show k ≠ 2 by omega, show ¬ 3 ≤ k by omega]
  by_cases hmi : k = 2
  · subst hmi; rfl
  by_cases htimer : k = 7
  · subst htimer; rfl
  · simp [hstored, hmi, htimer, show 3 ≤ k by omega, show ¬ k - 2 < 1 by omega, show k - 2 - 1 < 4 by omega]

/-- The bits of Cause as it is read (R298). -/
theorem getLsbD_causeValue (s : State) : ∀ j < 32, (causeValue s).getLsbD j =
    if j = 15 then s.timer.pending else if j = 10 then s.mi.intr &&& s.mi.mask != 0
    else if 11 ≤ j ∧ j ≤ 14 then false else s.cp0.cause.getLsbD j := by
  intro j hj
  rw [causeValue, getLsbD_putField _ _ _ hj]
  by_cases hfield : 8 ≤ j ∧ j < 8 + 8
  · obtain ⟨k, rfl⟩ := Nat.exists_eq_add_of_le hfield.1
    rw [if_pos hfield, Nat.add_sub_cancel_left, getLsbD_pendingIP s (by omega)]
    grind [Mi.line]
  · rw [if_neg hfield, if_neg (by omega), if_neg (by omega), if_neg (by omega)]

/-- Random with Wired in range is a number from Wired to 31 (10_state.md R40). -/
theorem randomValue_in_range {s : State} (h : s.cp0.wired.toNat ≤ 31) :
    ∃ r, s.cp0.wired.toNat ≤ r ∧ r ≤ 31 ∧ randomValue s = (BitVec.ofNat 64 r, { s with draws := s.draws + 1 }) := by
  have hw : wiredIndex s = s.cp0.wired.toNat := by
    simp only [wiredIndex, BitVec.extractLsb'_toNat]
    omega
  have hlt := drawFrom_lt (lo := wiredIndex s) (by omega) s
  refine ⟨(drawFrom (wiredIndex s) s).1, ?_, by omega, ?_⟩
  · rw [← hw]; exact Nat.le_add_right _ _
  · unfold randomValue
    rw [if_pos (by omega)]
    rfl

theorem randomValue_out_of_range {s : State} (h : 31 < wiredIndex s) :
    randomValue s = (((draw s).1.setWidth 6).setWidth 64, { s with draws := s.draws + 1 }) := by
  unfold randomValue
  rw [if_neg (by omega)]
  rfl

/-! ## The moves from CP0 (R257, R258) -/

/-- MFC0 writes the low word of what the read answers, sign-extended. -/
theorem exec_mfc0 {s u : State} (hu : cp0Usable s = true) {n : RegIdx} {v : DWord} (hr : cp0Read s n = (v, u)) (rt : RegIdx) :
    exec (.mfc0 rt n) s = .next (advance .next (writeReg u rt (sext32 (low32 v)))) := by
  simp only [exec, execMfc0, requireCp0_ok hu, hr]
  rfl

/-- DMFC0 of a 64-bit register writes what the read answers. -/
theorem exec_dmfc0_wide {s u : State} (hu : cp0Usable s = true) (h64 : ops64Enabled s = true) {n : RegIdx} (hn : cp0Wide n = true)
    {v : DWord} (hr : cp0Read s n = (v, u)) (rt : RegIdx) : exec (.dmfc0 rt n) s = .next (advance .next (writeReg u rt v)) := by
  simp only [exec, execDmfc0, requireCp0_ok hu, require64_ok h64, hr, hn]
  rfl

/-- DMFC0 of any other register writes a draw. -/
theorem exec_dmfc0_narrow {s : State} (hu : cp0Usable s = true) (h64 : ops64Enabled s = true) {n : RegIdx} (hn : cp0Wide n = false)
    (rt : RegIdx) : exec (.dmfc0 rt n) s = .next (advance .next (writeReg { s with draws := s.draws + 1 } rt (draw s).1)) := by
  simp only [exec, execDmfc0, requireCp0_ok hu, require64_ok h64, hn]
  rfl

/-- Settles O36, register by register. -/
theorem cp0Reads : Obligations.Cp0Reads := by
  intro s rt rd hu
  refine ⟨fun n v hnv => exec_mfc0 hu (cp0Read_stored s (n, v) hnv) rt, ⟨causeValue s, getLsbD_causeValue s, ?_⟩,
    ⟨configValue s.params s.cp0.config, putField_and_mask _ _ _ (by decide), extractLsb'_putField _ _ _ (by decide), ?_⟩,
    fun hw => ?_, fun hw => ?_, fun hrd => ?_, fun h64 => ⟨fun n v hnv => ?_, fun hrd => ?_⟩⟩
  · rw [exec_mfc0 hu (v := zext32 (causeValue s)) (u := s) rfl, low32_zext32]
    rfl
  · rw [exec_mfc0 hu (v := zext32 (configValue s.params s.cp0.config)) (u := s) rfl, low32_zext32]
    rfl
  · obtain ⟨r, hlo, hhi, hr⟩ := randomValue_in_range hw
    refine ⟨r, hlo, hhi, ?_⟩
    rw [exec_mfc0 hu (show cp0Read s 1 = _ from hr), sext32_low32_of_lt]
    rw [BitVec.toNat_ofNat]
    omega
  · refine ⟨(draw s).1.setWidth 6, ?_⟩
    rw [exec_mfc0 hu (show cp0Read s 1 = _ from randomValue_out_of_range hw), sext32_low32_of_lt]
    have hb := ((draw s).1.setWidth 6).isLt
    rw [BitVec.toNat_setWidth]
    omega
  · exact ⟨low32 (draw s).1, exec_mfc0 hu (cp0Read_reserved s hrd) rt⟩
  · have hwide : cp0Wide n = true ∧ cp0Read s n = (v, s) := by
      generalize hp : (n, v) = p at hnv
      fin_cases hnv <;> cases hp <;> exact ⟨rfl, rfl⟩
    exact exec_dmfc0_wide hu h64 hwide.1 hwide.2 rt
  · exact ⟨(draw s).1, exec_dmfc0_narrow hu h64 (decide_eq_false hrd) rt⟩

end Sys2Proof.Machine
end

section
/-! PROOFS. TLBR and TLBWI (44_system.md R261 to R263): the fields of the registers a TLB read writes, and that they give back what was
written. -/

namespace Sys2Proof.Machine

/-! ## The fields of a TLB read's registers (R261) -/

theorem entryHiOfEntry_toNat (e : TlbEntry) : (entryHiOfEntry e).toNat =
    e.r.toNat * 2 ^ 62 + e.vpn2.toNat * 2 ^ 13 + e.asid.toNat := by
  have h : (entryHiOfEntry e).toNat = ((((e.r.toNat) * 2 ^ 22 + 0) * 2 ^ 27 + e.vpn2.toNat) * 2 ^ 5 + 0) * 2 ^ 8 + e.asid.toNat := by
    simp only [entryHiOfEntry, Decode.toNat_concat]
    rfl
  rw [h]
  omega

theorem entryHiOfEntry_fields (e : TlbEntry) : (entryHiOfEntry e).extractLsb' 62 2 = e.r ∧
    (entryHiOfEntry e).extractLsb' 13 27 = e.vpn2 ∧ (entryHiOfEntry e).extractLsb' 0 8 = e.asid := by
  have hr := e.r.isLt
  have hvpn := e.vpn2.isLt
  have hasid := e.asid.isLt
  refine ⟨?_, ?_, ?_⟩ <;>
    · apply BitVec.eq_of_toNat_eq
      rw [BitVec.extractLsb'_toNat, entryHiOfEntry_toNat, Nat.shiftRight_eq_div_pow]
      omega

theorem pageMaskOfEntry_field (m : BitVec 12) : ((m ++ (0 : BitVec 13)).setWidth 32 : Word).extractLsb' 13 12 = m := by
  have hm := m.isLt
  have hz : (0 : BitVec 13).toNat = 0 := rfl
  apply BitVec.eq_of_toNat_eq
  rw [BitVec.extractLsb'_toNat, BitVec.toNat_setWidth, Decode.toNat_concat, hz, Nat.shiftRight_eq_div_pow]
  omega

theorem entryLoOfPage_toNat (p : TlbPage) (g : Bool) : (entryLoOfPage p g).toNat =
    p.pfn.toNat * 2 ^ 6 + p.c.toNat * 2 ^ 3 + p.d.toNat * 2 ^ 2 + p.v.toNat * 2 + g.toNat := by
  have h : (entryLoOfPage p g).toNat =
      ((((p.pfn.toNat * 2 ^ 3 + p.c.toNat) * 2 ^ 1 + (bit p.d).toNat) * 2 ^ 1 + (bit p.v).toNat) * 2 ^ 1 + (bit g).toNat) % 2 ^ 64 := by
    simp only [entryLoOfPage, BitVec.toNat_setWidth, Decode.toNat_concat]
  have hpfn := p.pfn.isLt
  have hc := p.c.isLt
  have hd := Bool.toNat_lt p.d
  have hv := Bool.toNat_lt p.v
  have hg := Bool.toNat_lt g
  simp only [bit, BitVec.toNat_ofBool] at h
  rw [h]
  omega

/-- A flag of a word is the bit its number has. -/
theorem getLsbD_eq_of_toNat {w : Nat} {x : BitVec w} {k : Nat} {b : Bool} (h : x.toNat / 2 ^ k % 2 = b.toNat) : x.getLsbD k = b := by
  rw [← BitVec.testBit_toNat, Nat.testBit_eq_decide_div_mod_eq, h]
  cases b <;> rfl

theorem entryLoOfPage_fields (p : TlbPage) (g : Bool) : (entryLoOfPage p g).extractLsb' 6 20 = p.pfn ∧
    (entryLoOfPage p g).extractLsb' 3 3 = p.c ∧ (entryLoOfPage p g).getLsbD 2 = p.d ∧ (entryLoOfPage p g).getLsbD 1 = p.v ∧
    (entryLoOfPage p g).getLsbD 0 = g := by
  have hpfn := p.pfn.isLt
  have hc := p.c.isLt
  have hd := Bool.toNat_lt p.d
  have hv := Bool.toNat_lt p.v
  have hg := Bool.toNat_lt g
  refine ⟨?_, ?_, ?_, ?_, ?_⟩
  · apply BitVec.eq_of_toNat_eq
    rw [BitVec.extractLsb'_toNat, entryLoOfPage_toNat, Nat.shiftRight_eq_div_pow]
    omega
  · apply BitVec.eq_of_toNat_eq
    rw [BitVec.extractLsb'_toNat, entryLoOfPage_toNat, Nat.shiftRight_eq_div_pow]
    omega
  all_goals
    apply getLsbD_eq_of_toNat
    rw [entryLoOfPage_toNat]
    omega

/-! ## What was written is read back -/

/-- Words that are zero outside a mask are equal when they agree under it. -/
theorem eq_of_agree_under_mask {w : Nat} {x y m : BitVec w} (hx : x &&& ~~~m = 0) (hy : y &&& ~~~m = 0)
    (h : ∀ j < w, m.getLsbD j = true → x.getLsbD j = y.getLsbD j) : x = y := by
  rw [and_eq_zero_iff] at hx hy
  apply BitVec.eq_of_getLsbD_eq
  intro j hj
  cases hm : m.getLsbD j
  · have hnot : (~~~m).getLsbD j = true := by simp only [BitVec.getLsbD_not, hj, hm, decide_true, Bool.not_false, Bool.and_self]
    rw [hx j hj hnot, hy j hj hnot]
  · exact h j hj hm

/-- Words with the same field agree on the bits of the field. -/
theorem getLsbD_eq_of_field {w start len : Nat} {x y : BitVec w} (h : x.extractLsb' start len = y.extractLsb' start len) {j : Nat}
    (h1 : start ≤ j) (h2 : j < start + len) : x.getLsbD j = y.getLsbD j := by
  have hbit := congrArg (fun z => z.getLsbD (j - start)) h
  simpa only [BitVec.getLsbD_extractLsb', show j - start < len by omega, Nat.add_sub_cancel' h1, decide_true, Bool.true_and] using hbit

section
variable {c : Cp0}

theorem pageMask_read_back (h : c.pageMask &&& ~~~0x01FFE000 = 0) : (maskField c ++ (0 : BitVec 13)).setWidth 32 = c.pageMask := by
  refine eq_of_agree_under_mask (pageMaskOfEntry_and_mask _) h fun j hj hm => ?_
  have hin : 13 ≤ j ∧ j < 25 := by
    revert hm; revert j; decide
  exact getLsbD_eq_of_field (pageMaskOfEntry_field _) hin.1 hin.2

theorem entryHi_read_back (h : c.entryHi &&& ~~~0xC00000FFFFFFE0FF = 0) : entryHiOfEntry (entryOfCp0 c) = c.entryHi := by
  obtain ⟨hr, hvpn, hasid⟩ := entryHiOfEntry_fields (entryOfCp0 c)
  refine eq_of_agree_under_mask (entryHiOfEntry_and_mask _) h fun j hj hm => ?_
  have hin : j < 8 ∨ (13 ≤ j ∧ j < 40) ∨ 62 ≤ j := by
    revert hm; revert j; decide
  rcases hin with hlow | ⟨h1, h2⟩ | hhigh
  · exact getLsbD_eq_of_field hasid (by omega) (by omega)
  · exact getLsbD_eq_of_field hvpn h1 h2
  · exact getLsbD_eq_of_field hr hhigh hj

/-- An EntryLo register is read back but for its G bit, which is that of the entry. -/
theorem entryLo_read_back {lo a b : DWord} (h : lo &&& ~~~0x03FFFFFF = 0) :
    entryLoOfPage (pageOfEntryLo lo) (a.getLsbD 0 && b.getLsbD 0) = (lo &&& 0xFFFFFFFFFFFFFFFE) ||| (a &&& b &&& 1) := by
  obtain ⟨hpfn, hc, hd, hv, hg⟩ := entryLoOfPage_fields (pageOfEntryLo lo) (a.getLsbD 0 && b.getLsbD 0)
  refine eq_of_agree_under_mask (entryLoOfPage_and_mask _ _)
    (or_and_eq_zero (and_eq_zero_left _ h) (and_mask_eq_zero _ (by decide))) fun j hj hm => ?_
  have hin : j < 26 := by
    revert hm; revert j; decide
  by_cases h0 : j = 0
  · subst h0
    rw [hg]
    simp
  have hone : ∀ j < 64, j ≠ 0 → (1 : DWord).getLsbD j = false ∧ (0xFFFFFFFFFFFFFFFE : DWord).getLsbD j = true := by decide
  have hlo : ((lo &&& 0xFFFFFFFFFFFFFFFE) ||| (a &&& b &&& 1)).getLsbD j = lo.getLsbD j := by
    rw [BitVec.getLsbD_or, BitVec.getLsbD_and, BitVec.getLsbD_and, (hone j hj h0).1, (hone j hj h0).2, Bool.and_true, Bool.and_false,
      Bool.or_false]
  rw [hlo]
  have hcases : j = 1 ∨ j = 2 ∨ (3 ≤ j ∧ j < 6) ∨ 6 ≤ j := by omega
  rcases hcases with rfl | rfl | ⟨h1, h2⟩ | h6
  · exact hv
  · exact hd
  · exact getLsbD_eq_of_field hc h1 h2
  · exact getLsbD_eq_of_field hpfn h6 hin

/-- Reading the entry that was written from the CP0 registers gives them back, with the G bit of both EntryLo registers the AND of
the two. -/
theorem cp0OfEntry_entryOfCp0 (h : c.fieldsLegal) : cp0OfEntry (entryOfCp0 c) c = { c with
    entryLo0 := (c.entryLo0 &&& 0xFFFFFFFFFFFFFFFE) ||| (c.entryLo0 &&& c.entryLo1 &&& 1)
    entryLo1 := (c.entryLo1 &&& 0xFFFFFFFFFFFFFFFE) ||| (c.entryLo0 &&& c.entryLo1 &&& 1) } := by
  obtain ⟨-, hlo0, hlo1, -, hpageMask, -, hentryHi, -⟩ := h
  rw [← entryLo_read_back hlo0, ← entryLo_read_back hlo1]
  unfold cp0OfEntry
  rw [entryHi_read_back hentryHi, show (entryOfCp0 c).mask = maskField c from rfl, pageMask_read_back hpageMask]
  rfl

end

/-! ## The instructions (R262, R263) -/

section
variable {s : State}

theorem exec_tlbr (hu : cp0Usable s = true) (h : indexField s < 32) :
    exec .tlbr s = .next (advance .next { s with cp0 := cp0OfEntry s.tlb[indexField s] s.cp0 }) := by
  simp only [exec, execTlbr, requireCp0_ok hu, tlbRead, h, dite_true]
  rfl

theorem exec_tlbr_refused (hu : cp0Usable s = true) (h : 32 ≤ indexField s) : exec .tlbr s = .refused .tlbIndexOutOfRange := by
  simp only [exec, execTlbr, requireCp0_ok hu, tlbRead, Nat.not_lt.2 h, dite_false]
  rfl

theorem exec_tlbwi (hu : cp0Usable s = true) (h : indexField s < 32) (hm : legalMask (maskField s.cp0) = true) :
    exec .tlbwi s = .next (advance .next { s with tlb := s.tlb.set (indexField s) (entryOfCp0 s.cp0) h }) := by
  simp only [exec, execTlbwi, requireCp0_ok hu, h, dite_true, tlbWrite, hm, if_true]
  rfl

theorem exec_tlbwi_refused (hu : cp0Usable s = true) (h : 32 ≤ indexField s) : exec .tlbwi s = .refused .tlbIndexOutOfRange := by
  simp only [exec, execTlbwi, requireCp0_ok hu, Nat.not_lt.2 h, dite_false]
  rfl

theorem exec_tlbwi_illegal (hu : cp0Usable s = true) (h : indexField s < 32) (hm : legalMask (maskField s.cp0) = false) :
    exec .tlbwi s = .refused .illegalPageMask := by
  simp only [exec, execTlbwi, requireCp0_ok hu, h, dite_true, tlbWrite, hm]
  rfl

/-- TLBWI and then TLBR: the entry written is the entry read. -/
theorem exec_tlbwi_tlbr (hu : cp0Usable s = true) (hc : s.cp0.fieldsLegal) (hm : legalMask (maskField s.cp0) = true) (h : indexField s < 32) :
    ∃ t u, exec .tlbwi s = .next t ∧ exec .tlbr t = .next u ∧
      t.cp0 = s.cp0 ∧ (∀ j, ∀ hj : j < 32, j ≠ indexField s → t.tlb[j] = s.tlb[j]) ∧ t.pc = s.nextPc ∧
      u = advance .next { t with cp0 := { s.cp0 with
        entryLo0 := (s.cp0.entryLo0 &&& 0xFFFFFFFFFFFFFFFE) ||| (s.cp0.entryLo0 &&& s.cp0.entryLo1 &&& 1)
        entryLo1 := (s.cp0.entryLo1 &&& 0xFFFFFFFFFFFFFFFE) ||| (s.cp0.entryLo0 &&& s.cp0.entryLo1 &&& 1) } } := by
  have hentry : (s.tlb.set (indexField s) (entryOfCp0 s.cp0) h)[indexField s] = entryOfCp0 s.cp0 := Vector.getElem_set_self h
  refine ⟨_, _, exec_tlbwi hu h hm, exec_tlbr (by exact hu) (by exact h), rfl, fun j hj hne => Vector.getElem_set_ne h hj hne.symm, rfl,
    ?_⟩
  rw [← cp0OfEntry_entryOfCp0 hc]
  exact congrArg (fun e => advance .next { advance .next { s with tlb := s.tlb.set (indexField s) (entryOfCp0 s.cp0) h } with
    cp0 := cp0OfEntry e s.cp0 }) hentry

end

/-- Settles O40. -/
theorem tlbWriteThenRead : Obligations.TlbWriteThenRead := by
  refine ⟨?_, ?_, ?_⟩
  · rintro s _ hu hc hm rfl h
    exact exec_tlbwi_tlbr hu hc hm h
  · rintro s _ hu rfl h
    refine ⟨cp0OfEntry s.tlb[indexField s] s.cp0, exec_tlbr hu h, rfl, pageMaskOfEntry_field _, pageMaskOfEntry_and_mask _,
      (entryHiOfEntry_fields _).1, (entryHiOfEntry_fields _).2.1, (entryHiOfEntry_fields _).2.2, entryHiOfEntry_and_mask _, ?_⟩
    intro lo page hmem
    obtain rfl : lo = entryLoOfPage page s.tlb[indexField s].g := by
      simp only [List.mem_cons, List.not_mem_nil, or_false, Prod.mk.injEq] at hmem
      rcases hmem with ⟨rfl, rfl⟩ | ⟨rfl, rfl⟩ <;> rfl
    obtain ⟨hpfn, hc, hd, hv, hg⟩ := entryLoOfPage_fields page s.tlb[indexField s].g
    exact ⟨hpfn, hc, hd, hv, hg, entryLoOfPage_and_mask _ _⟩
  · exact fun s hu => ⟨fun h => ⟨exec_tlbr_refused hu h, exec_tlbwi_refused hu h⟩, fun h hm => exec_tlbwi_illegal hu h hm,
      fun m => decide_eq_true_iff⟩

end Sys2Proof.Machine
end

section
/-! PROOFS. The physical map and translation (20_memory.md R75, R85, R86, R91 to R95): the regions fill the address space, the segments by mode,
and the TLB by its matching entries. -/

namespace Sys2Proof.Machine

/-! ## The physical map (R85, R86) -/

/-- The regions of a list follow each other without a gap, from `lo` up to `hi`. -/
def regionsFill : Nat → List Region → Nat → Bool
  | lo, [], hi => decide (lo = hi)
  | lo, r :: rs, hi => decide (r.first = lo) && regionsFill (r.last + 1) rs hi

/-- An address in a range that regions fill lies in one of them. -/
theorem exists_region_of_fill {l : List Region} {lo hi a : Nat} (h : regionsFill lo l hi = true) (h1 : lo ≤ a) (h2 : a < hi) :
    ∃ r ∈ l, r.first ≤ a ∧ a ≤ r.last := by
  induction l generalizing lo with
  | nil =>
    simp only [regionsFill, decide_eq_true_eq] at h
    omega
  | cons r rs ih =>
    simp only [regionsFill, Bool.and_eq_true, decide_eq_true_eq] at h
    obtain ⟨hfirst, hrest⟩ := h
    by_cases ha : a ≤ r.last
    · exact ⟨r, List.mem_cons_self, by omega, ha⟩
    · obtain ⟨q, hq, hin⟩ := ih hrest (by omega)
      exact ⟨q, List.mem_cons_of_mem r hq, hin⟩

/-- The table fills the 32-bit address space, when RDRAM is not empty. -/
theorem regionTable_fill {p : Params} (h0 : 0 < p.rdramSize) : regionsFill 0 (regionTable p) (2 ^ 32) = true := by
  have htail : regionsFill 0x03F00000 ((regionTable Params.default).drop 2) (2 ^ 32) = true := by decide
  rw [regionTable_eq]
  simp only [regionsFill, Nat.sub_add_cancel h0, decide_true, Bool.true_and]
  exact htail

/-- No address lies in two regions of the table. -/
theorem regionTable_unique {p : Params} (h0 : 0 < p.rdramSize) (hs : p.rdramSize ≤ 0x03F00000) {pa : Word} {q r : Region}
    (hq : q ∈ regionTable p) (hr : r ∈ regionTable p) (hqa : q.first ≤ pa.toNat ∧ pa.toNat ≤ q.last)
    (hra : r.first ≤ pa.toNat ∧ pa.toNat ≤ r.last) : q = r :=
  Option.some.inj ((regionOf_eq h0 hs hq hqa.1 hqa.2).symm.trans (regionOf_eq h0 hs hr hra.1 hra.2))

/-- Settles O34: the regions leave no gap, and no two of them share an address. -/
theorem oneRegionPerAddress : Obligations.OneRegionPerAddress := by
  intro p hp pa
  obtain ⟨-, -, -, h0, -, hs, -⟩ := hp
  obtain ⟨r, hr, hin⟩ := exists_region_of_fill (regionTable_fill h0) (Nat.zero_le pa.toNat) pa.isLt
  exact ⟨r, ⟨hr, hin⟩, fun q ⟨hq, hqin⟩ => regionTable_unique h0 hs hq hr hqin hin⟩

/-! ## Segments (R91, R92) -/

section
variable {a : Word}

theorem segmentOf_useg (h : a.toNat < 0x80000000) : segmentOf a = .useg := by simp [segmentOf, h]

theorem segmentOf_kseg0 (h1 : 0x80000000 ≤ a.toNat) (h2 : a.toNat < 0xA0000000) : segmentOf a = .kseg0 := by
  simp [segmentOf, Nat.not_lt.2 h1, h2]

theorem segmentOf_kseg1 (h1 : 0xA0000000 ≤ a.toNat) (h2 : a.toNat < 0xC0000000) : segmentOf a = .kseg1 := by
  simp [segmentOf, show ¬ a.toNat < 0x80000000 by omega, Nat.not_lt.2 h1, h2]

theorem segmentOf_ksseg (h1 : 0xC0000000 ≤ a.toNat) (h2 : a.toNat < 0xE0000000) : segmentOf a = .ksseg := by
  simp [segmentOf, show ¬ a.toNat < 0x80000000 by omega, show ¬ a.toNat < 0xA0000000 by omega, Nat.not_lt.2 h1, h2]

theorem segmentOf_kseg3 (h : 0xE0000000 ≤ a.toNat) : segmentOf a = .kseg3 := by
  simp [segmentOf, show ¬ a.toNat < 0x80000000 by omega, show ¬ a.toNat < 0xA0000000 by omega, show ¬ a.toNat < 0xC0000000 by omega,
    Nat.not_lt.2 h]

/-- User mode may use no segment but useg. -/
theorem segmentAllowed_user (h : 0x80000000 ≤ a.toNat) : segmentAllowed (segmentOf a) .user = false := by
  unfold segmentOf
  rw [if_neg (Nat.not_lt.2 h)]
  repeat' split
  all_goals rfl

/-- Supervisor mode may use neither kseg0 nor kseg1. -/
theorem segmentAllowed_supervisor_kseg01 (h1 : 0x80000000 ≤ a.toNat) (h2 : a.toNat < 0xC0000000) :
    segmentAllowed (segmentOf a) .supervisor = false := by
  by_cases h : a.toNat < 0xA0000000
  · rw [segmentOf_kseg0 h1 h]; rfl
  · rw [segmentOf_kseg1 (Nat.le_of_not_lt h) h2]; rfl

theorem segmentAllowed_useg (m : Mode) : segmentAllowed .useg m = true := by cases m <;> rfl

theorem segmentAllowed_ksseg {m : Mode} (h : m ≠ .user) : segmentAllowed .ksseg m = true := by
  cases m with
  | kernel | supervisor => rfl
  | user => exact absurd rfl h

end

section
variable {s : State} {va : DWord} {kind : AccessKind}

theorem currentMode_of_erl (h : statusERL s = true) : currentMode s = .kernel := by simp [currentMode, h]

/-- The access is not one of user mode with Status.RE = 1, which is refused (R75). -/
def notReversed (s : State) : Prop := currentMode s = .user → statusRE s = false

theorem notReversed_of_kernel (h : currentMode s = .kernel) : notReversed s := fun hu => by simp [h] at hu

theorem translate_nonSext32 (h : isSext32 va = false) : translate va kind s = .error (.refuse .nonSext32Address) := by
  simp [translate, h]

theorem translate_reversed (hx : isSext32 va = true) (hm : currentMode s = .user) (hr : statusRE s = true) :
    translate va kind s = .error (.refuse .reverseEndian) := by simp [translate, hx, hm, hr]

/-- The test for a reversed access fails. -/
theorem reversed_eq_false (h : notReversed s) : (decide (currentMode s = .user) && statusRE s) = false := by
  by_cases hm : currentMode s = .user
  · simp [h hm]
  · simp [hm]

/-- A segment the mode may not use raises Address Error. -/
theorem translate_forbidden (hx : isSext32 va = true) (hr : notReversed s)
    (ha : segmentAllowed (segmentOf (low32 va)) (currentMode s) = false) :
    translate va kind s = .error (.raise (.addressError (kind = .store) va) s) := by
  simp [translate, hx, reversed_eq_false hr, ha]

/-- What a segment translates an address to, when the mode may use it (R92). -/
def segmentTranslate (va : DWord) (kind : AccessKind) (s : State) : Segment → Res (Word × Bool)
  | .kseg0 => .ok (low32 va - 0x80000000, kseg0Cached s)
  | .kseg1 => .ok (low32 va - 0xA0000000, false)
  | .useg => if statusERL s then .ok (low32 va, false) else tlbTranslate va kind s
  | .ksseg | .kseg3 => tlbTranslate va kind s

theorem translate_allowed (hx : isSext32 va = true) (hr : notReversed s) {g : Segment} (hg : segmentOf (low32 va) = g)
    (ha : segmentAllowed g (currentMode s) = true) : translate va kind s = segmentTranslate va kind s g := by
  simp only [translate, hx, reversed_eq_false hr, hg, ha, Bool.not_true, Bool.false_eq_true, if_false]
  cases g <;> rfl

end

/-- Settles O23: by the segment of the address and what the mode may use. -/
theorem segmentTranslation : Obligations.SegmentTranslation := by
  intro s va kind
  refine ⟨translate_nonSext32, translate_reversed, ?_, ?_, ?_, ?_, ?_, ?_, ?_, ?_, ?_⟩
  · intro hx hm hre ha
    exact translate_forbidden hx (fun _ => hre) (by rw [hm]; exact segmentAllowed_user ha)
  · intro hx hm h1 h2
    exact translate_forbidden hx (fun hu => by simp [hm] at hu) (by rw [hm]; exact segmentAllowed_supervisor_kseg01 h1 h2)
  · intro hx hm ha
    exact translate_forbidden hx (fun hu => by simp [hm] at hu) (by rw [hm, segmentOf_kseg3 ha]; rfl)
  · intro hx hm h1 h2
    exact translate_allowed hx (notReversed_of_kernel hm) (segmentOf_kseg0 h1 h2) (by rw [hm]; rfl)
  · intro hx hm h1 h2
    exact translate_allowed hx (notReversed_of_kernel hm) (segmentOf_kseg1 h1 h2) (by rw [hm]; rfl)
  · intro hx herl ha
    rw [translate_allowed hx (notReversed_of_kernel (currentMode_of_erl herl)) (segmentOf_useg ha) (segmentAllowed_useg _)]
    exact if_pos herl
  · intro hx herl hre ha
    rw [translate_allowed hx hre (segmentOf_useg ha) (segmentAllowed_useg _)]
    exact if_neg (by simp [herl])
  · intro hx hm h1 h2
    exact translate_allowed hx (fun hu => absurd hu hm) (segmentOf_ksseg h1 h2) (segmentAllowed_ksseg hm)
  · intro hx hm ha
    exact translate_allowed hx (notReversed_of_kernel hm) (segmentOf_kseg3 ha) (by rw [hm]; rfl)

/-! ## The TLB (R95) -/

/-- An entry matches by R, by the bits of VPN2 outside its mask, and by G or ASID. -/
theorem matchesAddr_iff (e : TlbEntry) (va : DWord) (asid : BitVec 8) : e.matchesAddr va asid = true ↔
    e.r = va.extractLsb' 62 2 ∧ (∀ j < 27, e.mask.getLsbD j = false → e.vpn2.getLsbD j = va.getLsbD (13 + j)) ∧
    (e.g = true ∨ e.asid = asid) := by
  have hvpn : e.vpn2 &&& ~~~(e.mask.setWidth 27) = va.extractLsb' 13 27 &&& ~~~(e.mask.setWidth 27) ↔
      ∀ j < 27, e.mask.getLsbD j = false → e.vpn2.getLsbD j = va.getLsbD (13 + j) := by
    rw [BitVec.eq_of_getLsbD_eq_iff]
    refine forall₂_congr fun j hj => ?_
    cases hm : e.mask.getLsbD j <;> simp [hj, hm]
  simp only [TlbEntry.matchesAddr, Bool.and_eq_true, Bool.or_eq_true, decide_eq_true_eq, hvpn, and_assoc]

section
variable {s : State} {va : DWord} {kind : AccessKind}

theorem mem_tlbHits_iff {i : Fin 32} : i ∈ tlbHits s va ↔ (s.tlb[i]).matchesAddr va (currentAsid s) = true := by
  simp [tlbHits]

theorem tlbHits_nodup : (tlbHits s va).Nodup := (List.nodup_finRange 32).filter _

theorem tlbHits_eq_nil (h : ∀ i : Fin 32, (s.tlb[i]).matchesAddr va (currentAsid s) = false) : tlbHits s va = [] :=
  List.eq_nil_iff_forall_not_mem.2 fun i hi => Bool.eq_false_iff.1 (h i) (mem_tlbHits_iff.1 hi)

theorem tlbHits_eq_singleton {i : Fin 32} (hi : (s.tlb[i]).matchesAddr va (currentAsid s) = true)
    (h : ∀ j : Fin 32, j ≠ i → (s.tlb[j]).matchesAddr va (currentAsid s) = false) : tlbHits s va = [i] := by
  refine List.perm_singleton.1 ((List.perm_ext_iff_of_nodup tlbHits_nodup (List.nodup_singleton i)).2 fun j => ?_)
  rw [mem_tlbHits_iff, List.mem_singleton]
  exact ⟨fun hj => by_contra fun hne => Bool.eq_false_iff.1 (h j hne) hj, fun hj => hj ▸ hi⟩

/-- Two matching entries refuse the translation. -/
theorem tlbTranslate_multiple {i j : Fin 32} (hne : i ≠ j) (hi : i ∈ tlbHits s va) (hj : j ∈ tlbHits s va) :
    tlbTranslate va kind s = .error (.refuse .tlbMultipleMatch) := by
  unfold tlbTranslate
  split
  · next h => simp [h] at hi
  · next k h =>
    rw [h, List.mem_singleton] at hi hj
    exact absurd (hi.trans hj.symm) hne
  · rfl

end

/-- The page size of an entry whose mask is `4^k - 1` is `4^k` times 4096. -/
theorem pageShift_of_mask {e : TlbEntry} {k : Nat} (h : e.mask.toNat = 4 ^ k - 1) : e.pageShift = 12 + 2 * k := by
  have hpos : 0 < 4 ^ k := Nat.pow_pos (by decide)
  have hpow : e.mask.toNat + 1 = 2 ^ (2 * k) := by rw [h, Nat.sub_add_cancel hpos, Nat.pow_mul]
  rw [TlbEntry.pageShift, hpow, Nat.log2_two_pow]

/-- The address of an aligned frame and an offset below the page size is their sum. -/
theorem frameAddr_toNat {pfn : BitVec 20} {k : Nat} (hk : k ≤ 6) (h : pfn.toNat % 4 ^ k = 0) (va : DWord) :
    (frameAddr pfn (12 + 2 * k) va).toNat = pfn.toNat * 4096 + va.toNat % (4096 * 4 ^ k) := by
  have hsize : 2 ^ (12 + 2 * k) = 4096 * 4 ^ k := by rw [Nat.pow_add, Nat.pow_mul]
  have hle : 2 ^ (12 + 2 * k) ≤ 2 ^ 24 := Nat.pow_le_pow_right (by decide) (by omega)
  have hoff : va.toNat % 2 ^ (12 + 2 * k) < 2 ^ (12 + 2 * k) := Nat.mod_lt _ (Nat.pow_pos (by decide))
  have hframe : pfn.toNat * 4096 = 2 ^ (12 + 2 * k) * (pfn.toNat / 4 ^ k) := by
    obtain ⟨q, hq⟩ := Nat.dvd_of_mod_eq_zero h
    rw [hsize, hq, Nat.mul_div_cancel_left _ (Nat.pow_pos (by decide))]
    ring
  rw [frameAddr, BitVec.toNat_or, BitVec.toNat_append, BitVec.toNat_ofNat, Nat.mod_eq_of_lt (by omega), Nat.shiftLeft_eq]
  rw [← hsize, show (2 : Nat) ^ 12 = 4096 from rfl, show (0 : BitVec 12).toNat = 0 from rfl, Nat.or_zero, hframe,
    Nat.two_pow_add_eq_or_of_lt hoff]

/-- Translation through the one matching entry, its page size given by its mask (R95). -/
theorem translateEntry_of_mask {e : TlbEntry} {k : Nat} (hmask : e.mask.toNat = 4 ^ k - 1) (hk : k ≤ 6) {p : TlbPage} (va : DWord)
    (hp : p = if va.getLsbD (12 + 2 * k) then e.odd else e.even) (kind : AccessKind) (s : State) :
    (p.v = false → translateEntry e va kind s = .error (.raise (.tlbInvalid (kind = .store) va) s)) ∧
    (p.v = true → kind = .store → p.d = false → translateEntry e va kind s = .error (.raise (.tlbModified va) s)) ∧
    (p.v = true → (kind ≠ .store ∨ p.d = true) → p.pfn.toNat % 4 ^ k ≠ 0 →
      translateEntry e va kind s = .error (.refuse .pfnNotPageAligned)) ∧
    (p.v = true → (kind ≠ .store ∨ p.d = true) → p.pfn.toNat % 4 ^ k = 0 →
      ∃ pa : Word, pa.toNat = p.pfn.toNat * 4096 + va.toNat % (4096 * 4 ^ k) ∧
        translateEntry e va kind s = .ok (pa, p.c != 2)) := by
  have hshift := pageShift_of_mask hmask
  have hpage : e.page va = p := by rw [hp, TlbEntry.page, hshift]
  have halign : 2 ^ (e.pageShift - 12) = 4 ^ k := by rw [hshift, Nat.add_sub_cancel_left, Nat.pow_mul]
  have hd : (kind ≠ .store ∨ p.d = true) → (decide (kind = .store) && !p.d) = false := by
    rintro (h | h) <;> simp [h]
  refine ⟨fun hv => ?_, fun hv hst hdirty => ?_, fun hv hw hpfn => ?_, fun hv hw hpfn => ⟨_, frameAddr_toNat hk hpfn va, ?_⟩⟩
  · simp [translateEntry, hpage, hv]
  · simp [translateEntry, hpage, hv, hst, hdirty]
  · simp only [translateEntry, hpage, hv, hd hw, halign, Bool.not_true, Bool.false_eq_true, if_false, if_pos hpfn]
  · rw [← hshift]
    simp only [translateEntry, hpage, hv, hd hw, halign, Bool.not_true, Bool.false_eq_true, if_false, if_neg (not_not.2 hpfn)]

/-- Settles O24: by the matching entries, then by the page of the one that matches. -/
theorem tlbTranslation : Obligations.TlbTranslation := by
  refine ⟨matchesAddr_iff, fun s va kind => ⟨fun h => ?_, fun i j hne hi hj => ?_, fun i hi h k hmask hk p hp => ?_⟩⟩
  · simp [tlbTranslate, tlbHits_eq_nil h]
  · exact tlbTranslate_multiple hne (mem_tlbHits_iff.2 hi) (mem_tlbHits_iff.2 hj)
  · have hone : tlbTranslate va kind s = translateEntry s.tlb[i] va kind s := by
      simp only [tlbTranslate, tlbHits_eq_singleton hi h]
    rw [hone]
    exact translateEntry_of_mask hmask hk va hp kind s

end Sys2Proof.Machine
end

section
/-! PROOFS. Data accesses (20_memory.md R76 to R80, R87 to R89, 43_loadstore.md R211 to R237): what ends an access before the bus, the
access of each region, and every load and store as the bus access it makes. -/

namespace Sys2Proof.Machine

/-! ## The start of an access (R76, R77, R101) -/

/-- The kind of a data access. -/
def dataKind (store : Bool) : AccessKind := if store then .store else .load

/-- A data access up to the bus: the translation, the watch check and the cache checker. -/
def accessStart (s : State) (va : DWord) (store : Bool) : Res (Word × State) := do
  let (pa, cached) ← translate va (dataKind store) s
  watchCheck pa store s
  let s ← orRefuse (cacheCheck pa (dataKind store) cached s)
  return (pa, s)

/-- A load is the start of its access and then the read of the aligned unit. -/
theorem memRead_eq_start (s : State) (va : DWord) (w : Width) : memRead s va w = (accessStart s va false).bind fun p =>
    (orRefuse (physRead p.2 (alignDown p.1 w) w)).map fun q => (q.1, p.1, q.2) := by
  simp only [memRead, accessStart, dataKind, Bool.false_eq_true, if_false, bind, pure]
  cases translate va .load s with
  | error e => rfl
  | ok p =>
    simp only [Except.bind]
    cases watchCheck p.1 false s with
    | error e => rfl
    | ok u =>
      simp only
      cases orRefuse (cacheCheck p.1 .load p.2 s) with
      | error e => rfl
      | ok u => rfl

/-- A store is the start of its access and then the write of the aligned unit. -/
theorem memWriteMasked_eq_start (s : State) (va : DWord) (w : Width) (v : DWord) (mask : BitVec 8) :
    memWriteMasked s va w v mask = (accessStart s va true).bind fun p => orRefuse (physWriteMasked p.2 (alignDown p.1 w) w v mask) := by
  simp only [memWriteMasked, accessStart, dataKind, if_true, bind, pure]
  cases translate va .store s with
  | error e => rfl
  | ok p =>
    simp only [Except.bind]
    cases watchCheck p.1 true s with
    | error e => rfl
    | ok u =>
      simp only
      cases orRefuse (cacheCheck p.1 .store p.2 s) with
      | error e => rfl
      | ok u => rfl

section
variable {s u : State} {va : DWord} {store : Bool} {pa : Word} {cached : Bool}

theorem accessStart_translate_error {st : Stop} (h : translate va (dataKind store) s = .error st) :
    accessStart s va store = .error st := by simp [accessStart, h, bind, Except.bind]

theorem accessStart_watch_error {st : Stop} (ht : translate va (dataKind store) s = .ok (pa, cached))
    (h : watchCheck pa store s = .error st) : accessStart s va store = .error st := by
  simp [accessStart, ht, h, bind, Except.bind]

theorem accessStart_refused {r : Refusal} (ht : translate va (dataKind store) s = .ok (pa, cached))
    (hw : watchMatches pa store s = false) (h : cacheCheck pa (dataKind store) cached s = .error r) :
    accessStart s va store = .error (.refuse r) := by
  simp [accessStart, ht, watchCheck_ok hw, h, orRefuse, bind, Except.bind]

/-- An access that goes to the bus has passed its start. -/
theorem accessStart_of_reachesBus (h : reachesBus s store va pa u) : accessStart s va store = .ok (pa, u) := by
  obtain ⟨cached, ht, hw, hc⟩ := h
  simp [accessStart, dataKind, ht, watchCheck_ok hw, hc, orRefuse, bind, Except.bind, pure, Except.pure]

theorem watchMatches_eq_true (h1 : s.cp0.watchLo.getLsbD (if store then 0 else 1) = true)
    (h2 : pa.extractLsb' 3 29 = s.cp0.watchLo.extractLsb' 3 29) (h3 : s.cp0.watchHi.extractLsb' 0 4 = 0) :
    watchMatches pa store s = true := by simp only [watchMatches, h1, h2, h3, decide_true, Bool.and_self]

theorem watchCheck_taken (h : watchMatches pa store s = true) (h0 : statusEXL s = false ∧ statusERL s = false) :
    watchCheck pa store s = .error (.raise .watch s) := by simp [watchCheck, h, h0.1, h0.2]

theorem watchCheck_deferred (h : watchMatches pa store s = true) (h0 : statusEXL s = true ∨ statusERL s = true) :
    watchCheck pa store s = .error (.refuse .watchDeferred) := by simp [watchCheck, h, h0]

end

theorem completeNext_eq_bind (r : Res State) : completeNext r = complete (r.bind fun s => .ok (.next, s)) := by cases r <;> rfl

/-! ## Every load and store as an access -/

/-- An instruction whose outcome is that of an access at `va` and of what it does with it. -/
def IsAccess (i : Instr) (s : State) (va : DWord) (store : Bool) : Prop :=
  ∃ k : Word × State → Res (Flow × State), exec i s = complete ((accessStart s va store).bind k)

/-- An instruction whose outcome is that of a load of width `w` at `va` and of what it does with the value. -/
def IsLoad (i : Instr) (s : State) (va : DWord) (w : Width) : Prop :=
  ∃ k : DWord × Word × State → Res (Flow × State), exec i s = complete ((memRead s va w).bind k)

section
variable {i : Instr} {s : State} {va : DWord} {store : Bool} {w : Width}

theorem IsAccess.of_stop (h : IsAccess i s va store) {st : Stop} (hs : accessStart s va store = .error st) :
    exec i s = complete (.error st) := by
  obtain ⟨k, hk⟩ := h
  rw [hk, hs]
  rfl

theorem IsLoad.of_stop (h : IsLoad i s va w) {st : Stop} (hs : memRead s va w = .error st) : exec i s = complete (.error st) := by
  obtain ⟨k, hk⟩ := h
  rw [hk, hs]
  rfl

theorem IsLoad.isAccess (h : IsLoad i s va w) : IsAccess i s va false := by
  obtain ⟨k, hk⟩ := h
  refine ⟨fun p => ((orRefuse (physRead p.2 (alignDown p.1 w) w)).map fun q => (q.1, p.1, q.2)).bind k, ?_⟩
  rw [hk, memRead_eq_start]
  cases accessStart s va false <;> rfl

theorem isAccess_of_memWriteMasked {v : DWord} {mask : BitVec 8} {k : State → Res (Flow × State)}
    (h : exec i s = complete ((memWriteMasked s va w v mask).bind k)) : IsAccess i s va true := by
  refine ⟨fun p => (orRefuse (physWriteMasked p.2 (alignDown p.1 w) w v mask)).bind k, ?_⟩
  rw [h, memWriteMasked_eq_start]
  cases accessStart s va true <;> rfl

theorem isAccess_of_store {v : DWord} {mask : BitVec 8} (h : exec i s = completeNext (memWriteMasked s va w v mask)) :
    IsAccess i s va true := isAccess_of_memWriteMasked (h.trans (completeNext_eq_bind _))

end

section
variable (rt base : RegIdx) (o : BitVec 16) {s : State}

theorem isLoad_byte : ∀ i ∈ [Instr.lb rt o base, .lbu rt o base], IsLoad i s (effAddr s base o) .byte :=
  List.forall_mem_cons.2 ⟨⟨_, rfl⟩, List.forall_mem_singleton.2 ⟨_, rfl⟩⟩

theorem isLoad_half : ∀ i ∈ [Instr.lh rt o base, .lhu rt o base], IsLoad i s (effAddr s base o) .half :=
  List.forall_mem_cons.2 ⟨⟨_, rfl⟩, List.forall_mem_singleton.2 ⟨_, rfl⟩⟩

theorem isLoad_word : ∀ i ∈ [Instr.lw rt o base, .lwl rt o base, .lwr rt o base, .ll rt o base],
    IsLoad i s (effAddr s base o) .word := by
  simp only [List.forall_mem_cons]
  exact ⟨⟨_, rfl⟩, ⟨_, rfl⟩, ⟨_, rfl⟩, ⟨_, rfl⟩, List.forall_mem_nil _⟩

theorem isLoad_lwu (h : ops64Enabled s = true) : IsLoad (.lwu rt o base) s (effAddr s base o) .word :=
  ⟨_, after64_ok h _⟩

theorem isLoad_dword (h : ops64Enabled s = true) : ∀ i ∈ [Instr.ld rt o base, .ldl rt o base, .ldr rt o base, .lld rt o base],
    IsLoad i s (effAddr s base o) .dword := by
  simp only [List.forall_mem_cons]
  exact ⟨⟨_, after64_ok h _⟩, ⟨_, after64_ok h _⟩, ⟨_, after64_ok h _⟩, ⟨_, after64_ok h _⟩, List.forall_mem_nil _⟩

theorem isAccess_store : ∀ i ∈ [Instr.sb rt o base, .sh rt o base, .sw rt o base, .swl rt o base, .swr rt o base],
    IsAccess i s (effAddr s base o) true := by
  simp only [List.forall_mem_cons]
  exact ⟨isAccess_of_store rfl, isAccess_of_store rfl, isAccess_of_store rfl, isAccess_of_store rfl, isAccess_of_store rfl,
    List.forall_mem_nil _⟩

theorem isAccess_store64 (h : ops64Enabled s = true) : ∀ i ∈ [Instr.sd rt o base, .sdl rt o base, .sdr rt o base],
    IsAccess i s (effAddr s base o) true := by
  simp only [List.forall_mem_cons]
  exact ⟨isAccess_of_store (after64_ok h _), isAccess_of_store (after64_ok h _), isAccess_of_store (after64_ok h _),
    List.forall_mem_nil _⟩

/-- With LLbit a store-conditional is a store and then its success. -/
theorem storeConditional_linked (h : s.llbit = true) (w : Width) : storeConditional w rt o base s =
    complete ((memWriteMasked s (effAddr s base o) w (w.trunc (readReg s rt)) fullMask).bind fun u => .ok (.next, writeReg u rt 1)) := by
  simp only [storeConditional, h, if_true, memWrite_eq]
  rfl

/-- Without LLbit a store-conditional only translates. -/
theorem storeConditional_unlinked (h : s.llbit = false) (w : Width) : storeConditional w rt o base s =
    complete ((translate (effAddr s base o) .store s).bind fun _ => .ok (.next, writeReg s rt 0)) := by
  simp only [storeConditional, h, Bool.false_eq_true, if_false]
  rfl

theorem exec_scd (h : ops64Enabled s = true) : exec (.scd rt o base) s = storeConditional .dword rt o base s := after64_ok h _

/-- The data accesses: an instruction and whether it stores, those of 64 bits where they are enabled. -/
def IsDataAccess (s : State) (rt base : RegIdx) (o : BitVec 16) (i : Instr) (store : Bool) : Prop :=
  (store = false ∧ i ∈ [Instr.lb rt o base, .lbu rt o base, .lh rt o base, .lhu rt o base, .lw rt o base, .lwl rt o base,
    .lwr rt o base, .ll rt o base]) ∨
  (store = false ∧ ops64Enabled s = true ∧
    i ∈ [Instr.lwu rt o base, .ld rt o base, .ldl rt o base, .ldr rt o base, .lld rt o base]) ∨
  (store = true ∧ i ∈ [Instr.sb rt o base, .sh rt o base, .sw rt o base, .swl rt o base, .swr rt o base, .sc rt o base]) ∨
  (store = true ∧ ops64Enabled s = true ∧ i ∈ [Instr.sd rt o base, .sdl rt o base, .sdr rt o base, .scd rt o base])

/-- A data access other than a store-conditional without LLbit is its access; that one is its width's `storeConditional`. -/
theorem IsDataAccess.cases {i : Instr} {store : Bool} (h : IsDataAccess s rt base o i store) :
    IsAccess i s (effAddr s base o) store ∨
      (i ∈ [Instr.sc rt o base, .scd rt o base] ∧ store = true ∧ s.llbit = false ∧ ∃ w, exec i s = storeConditional w rt o base s) := by
  have conditional : ∀ {i w}, i ∈ [Instr.sc rt o base, .scd rt o base] → exec i s = storeConditional w rt o base s →
      IsAccess i s (effAddr s base o) true ∨ (i ∈ [Instr.sc rt o base, .scd rt o base] ∧ true = true ∧ s.llbit = false ∧
        ∃ w, exec i s = storeConditional w rt o base s) := by
    intro i w hi he
    cases hl : s.llbit with
    | true => exact .inl (isAccess_of_memWriteMasked (he.trans (storeConditional_linked rt base o hl w)))
    | false => exact .inr ⟨hi, rfl, rfl, w, he⟩
  rcases h with ⟨rfl, hi⟩ | ⟨rfl, h64, hi⟩ | ⟨rfl, hi⟩ | ⟨rfl, h64, hi⟩
  · left
    rcases (List.mem_append (s := [Instr.lb rt o base, .lbu rt o base])).1 hi with hi | hi
    · exact (isLoad_byte rt base o i hi).isAccess
    rcases (List.mem_append (s := [Instr.lh rt o base, .lhu rt o base])).1 hi with hi | hi
    · exact (isLoad_half rt base o i hi).isAccess
    · exact (isLoad_word rt base o i hi).isAccess
  · left
    rcases List.mem_cons.1 hi with rfl | hi
    · exact (isLoad_lwu rt base o h64).isAccess
    · exact (isLoad_dword rt base o h64 i hi).isAccess
  · rcases (List.mem_append (s := [Instr.sb rt o base, .sh rt o base, .sw rt o base, .swl rt o base, .swr rt o base])).1 hi with hi | hi
    · exact .inl (isAccess_store rt base o i hi)
    · obtain rfl := List.mem_singleton.1 hi
      exact conditional (w := .word) (by simp) rfl
  · rcases (List.mem_append (s := [Instr.sd rt o base, .sdl rt o base, .sdr rt o base])).1 hi with hi | hi
    · exact .inl (isAccess_store64 rt base o h64 i hi)
    · obtain rfl := List.mem_singleton.1 hi
      exact conditional (by simp) (exec_scd rt base o h64)

/-- A data access whose translation stops is stopped. -/
theorem IsDataAccess.translate_error {i : Instr} {store : Bool} (h : IsDataAccess s rt base o i store) {st : Stop}
    (ht : translate (effAddr s base o) (dataKind store) s = .error st) : exec i s = complete (.error st) := by
  rcases h.cases with h | ⟨-, rfl, hl, w, hw⟩
  · exact h.of_stop (accessStart_translate_error ht)
  · rw [hw, storeConditional_unlinked rt base o hl, show translate _ .store s = _ from ht]
    rfl

end

/-- Settles O32: a data access is stopped by what stops its start, and a store-conditional without LLbit by its translation only. -/
theorem dataAccessExceptions : Obligations.DataAccessExceptions := by
  refine fun s rt base o => ⟨fun i store h kind hkind tr htr => ?_, fun hl p hp => ?_⟩
  · have hacc : IsDataAccess s rt base o i store := h
    obtain rfl : kind = dataKind store := hkind
    subst htr
    refine ⟨fun e s' ht => ?_, fun r ht => hacc.translate_error rt base o ht, fun pa cached ht hsc => ?_⟩
    · obtain rfl := (translate_raise ht).1
      exact hacc.translate_error rt base o ht
    · have hi : IsAccess i s (effAddr s base o) store := by
        rcases hacc.cases with hi | ⟨hmem, -, hl, -⟩
        · exact hi
        · exact absurd (hsc hmem) (by simp [hl])
      refine ⟨fun h1 h2 h3 => ?_, fun hw r hc => hi.of_stop (accessStart_refused ht hw hc)⟩
      have hw := watchMatches_eq_true h1 h2 h3
      exact ⟨fun h0 => hi.of_stop (accessStart_watch_error ht (watchCheck_taken hw h0)),
        fun h0 => hi.of_stop (accessStart_watch_error ht (watchCheck_deferred hw h0))⟩
  · have hsc : ∀ w, storeConditional w rt o base s = .next (advance .next (writeReg s rt 0)) := fun w => by
      rw [storeConditional_unlinked rt base o hl, hp]
      rfl
    exact ⟨hsc .word, fun h64 => (exec_scd rt base o h64).trans (hsc .dword)⟩

end Sys2Proof.Machine
end

section
/-! PROOFS. The bus by region (20_memory.md R78, R87 to R89), and what each load and store does with what the bus answers (43_loadstore.md
R213 to R237). -/

namespace Sys2Proof.Machine

/-! ## Accesses that reach the bus -/

section
variable {s u t : State} {va : DWord} {pa : Word} {w : Width}

theorem memRead_bus (h : reachesBus s false va pa u) (w : Width) :
    memRead s va w = (orRefuse (physRead u (alignDown pa w) w)).map fun q => (q.1, pa, q.2) := by
  rw [memRead_eq_start, accessStart_of_reachesBus h]
  rfl

theorem memRead_bus_ok (h : reachesBus s false va pa u) {v : DWord} (hr : physRead u (alignDown pa w) w = .ok (v, t)) :
    memRead s va w = .ok (v, pa, t) := by
  rw [memRead_bus h, hr]
  rfl

theorem memRead_bus_error (h : reachesBus s false va pa u) {e : Refusal} (hr : physRead u (alignDown pa w) w = .error e) :
    memRead s va w = .error (.refuse e) := by
  rw [memRead_bus h, hr]
  rfl

theorem memWriteMasked_bus (h : reachesBus s true va pa u) (w : Width) (v : DWord) (mask : BitVec 8) :
    memWriteMasked s va w v mask = orRefuse (physWriteMasked u (alignDown pa w) w v mask) := by
  rw [memWriteMasked_eq_start, accessStart_of_reachesBus h]
  rfl

/-- The aligned unit is the word at the multiple of its size. -/
theorem eq_alignDown {a : Word} (h : a.toNat = pa.toNat / w.bytes * w.bytes) : a = alignDown pa w :=
  BitVec.eq_of_toNat_eq (h.trans (alignDown_toNat pa w).symm)

theorem alignDown_byte (pa : Word) : alignDown pa .byte = pa :=
  (eq_alignDown (by rw [show Width.byte.bytes = 1 from rfl, Nat.div_one, Nat.mul_one])).symm

end

/-! ## What a load does with the value -/

section
variable {s t : State} {rt base : RegIdx} {o : BitVec 16} {w : Width} {v : DWord} {pa : Word}

theorem loadWith_ok (h : memRead s (effAddr s base o) w = .ok (v, pa, t)) (f : DWord → DWord) :
    loadWith w f rt o base s = .next (advance .next (writeReg t rt (f v))) := by
  unfold loadWith
  rw [h]
  rfl

theorem loadLinked_ok (h : memRead s (effAddr s base o) w = .ok (v, pa, t)) :
    loadLinked w rt o base s = .next (advance .next { writeReg t rt (w.sext v) with
      llbit := true, cp0 := { t.cp0 with llAddr := pa >>> 4 } }) := by
  have hline : (pa.extractLsb' 4 28).setWidth 32 = pa >>> 4 := by
    apply BitVec.eq_of_toNat_eq
    have := pa.isLt
    simp only [BitVec.toNat_setWidth, BitVec.extractLsb'_toNat, BitVec.toNat_ushiftRight, Nat.shiftRight_eq_div_pow]
    omega
  unfold loadLinked
  rw [h]
  simp only [bind, Except.bind, pure, Except.pure, complete_ok, linked, hline, writeReg_cp0]

theorem lwl_ok (h : memRead s (effAddr s base o) .word = .ok (v, pa, t)) : exec (.lwl rt o base) s =
    .next (advance .next (writeReg t rt (sext32 (lwlWord ((effAddr s base o).toNat % 4) (low32 v) (low32 (readReg s rt)))))) :=
  loadWith_ok h fun v => sext32 (lwlWord ((effAddr s base o).toNat % 4) (low32 v) (low32 (readReg s rt)))

theorem ldl_ok (h64 : ops64Enabled s = true) (h : memRead s (effAddr s base o) .dword = .ok (v, pa, t)) : exec (.ldl rt o base) s =
    .next (advance .next (writeReg t rt (ldlDouble ((effAddr s base o).toNat % 8) v (readReg s rt)))) :=
  (after64_ok h64 _).trans (loadWith_ok h fun v => ldlDouble ((effAddr s base o).toNat % 8) v (readReg s rt))

theorem ldr_ok (h64 : ops64Enabled s = true) (h : memRead s (effAddr s base o) .dword = .ok (v, pa, t)) : exec (.ldr rt o base) s =
    .next (advance .next (writeReg t rt (ldrDouble ((effAddr s base o).toNat % 8) v (readReg s rt)))) :=
  (after64_ok h64 _).trans (loadWith_ok h fun v => ldrDouble ((effAddr s base o).toNat % 8) v (readReg s rt))

theorem lwr_whole (h : memRead s (effAddr s base o) .word = .ok (v, pa, t)) (hk : (effAddr s base o).toNat % 4 = 3) :
    exec (.lwr rt o base) s = .next (advance .next (writeReg t rt (sext32 (lwrWord 3 (low32 v) (low32 (readReg s rt)))))) := by
  show execLwr rt o base s = _
  simp only [execLwr, h, hk, bind, Except.bind, pure, Except.pure, if_true, complete_ok]

/-- LWR of a part of the word leaves a draw in the upper half. -/
theorem lwr_part (h : memRead s (effAddr s base o) .word = .ok (v, pa, t)) (hk : (effAddr s base o).toNat % 4 ≠ 3) :
    exec (.lwr rt o base) s = .next (advance .next (writeReg { t with draws := t.draws + 1 } rt
      (low32 (draw t).1 ++ lwrWord ((effAddr s base o).toNat % 4) (low32 v) (low32 (readReg s rt))))) := by
  show execLwr rt o base s = _
  simp only [execLwr, h, hk, bind, Except.bind, pure, Except.pure, if_false, complete_ok]
  rfl

end

/-! ## Loads and stores in RAM -/

/-- Settles O25: a load that reaches RAM reads the aligned unit. -/
theorem loadResults : Obligations.LoadResults := by
  intro s rt base o pa h
  have hread := memRead_ram h
  have hone : pa.toNat / 1 * 1 = pa.toNat := by rw [Nat.div_one, Nat.mul_one]
  have hbyte : memRead s (effAddr s base o) .byte = .ok (s.mem.readBE pa.toNat 1, pa, s) := by
    have := hread .byte
    rwa [show Width.byte.bytes = 1 from rfl, hone] at this
  exact ⟨loadWith_ok hbyte _, loadWith_ok hbyte _, loadWith_ok (hread .half) _, loadWith_ok (hread .half) _, loadWith_ok (hread .word) _,
    fun h64 => ⟨(after64_ok h64 _).trans (loadWith_ok (hread .word) _), (after64_ok h64 _).trans (loadWith_ok (hread .dword) _)⟩⟩

theorem getLsbD_fullMask {j : Nat} (h : j < 8) : fullMask.getLsbD j = true := by
  rw [fullMask, BitVec.getLsbD_allOnes]
  exact decide_eq_true h

theorem getLsbD_trunc (w : Width) (v : DWord) {j : Nat} (h : j < 8 * w.bytes) : (w.trunc v).getLsbD j = v.getLsbD j := by
  cases w with
  | byte => have h : j < 8 := h; simp [Width.trunc, h, show j < 64 by omega]
  | half => have h : j < 16 := h; simp [Width.trunc, h, show j < 64 by omega]
  | word => have h : j < 32 := h; simp [Width.trunc, h, show j < 64 by omega]
  | dword => rfl

/-- A byte of the stored unit is a byte of the register. -/
theorem extractLsb'_trunc (w : Width) (v : DWord) {k : Nat} (h : k + 8 ≤ 8 * w.bytes) :
    (w.trunc v).extractLsb' k 8 = v.extractLsb' k 8 := by
  apply BitVec.eq_of_getLsbD_eq
  intro i hi
  rw [BitVec.getLsbD_extractLsb', BitVec.getLsbD_extractLsb', getLsbD_trunc w v (by omega)]

/-- A store that reaches RAM writes the bytes of its unit, most significant first, and nothing else. -/
theorem store_ram {i : Instr} {s : State} {va v : DWord} {pa : Word} {w : Width} (h : reachesRam s true va pa)
    (hi : exec i s = completeNext (memWrite s va w (w.trunc v))) :
    ∃ m : Memory, exec i s = .next (advance .next { s with mem := m }) ∧
      (∀ j < w.bytes, m.read (pa.toNat / w.bytes * w.bytes + j) = v.extractLsb' (8 * (w.bytes - 1 - j)) 8) ∧
      ∀ a, (a < pa.toNat / w.bytes * w.bytes ∨ pa.toNat / w.bytes * w.bytes + w.bytes ≤ a) → m.read a = s.mem.read a := by
  refine ⟨_, ?_, fun j hj => ?_, fun a ha => Memory.read_writeBE_outside _ _ fullMask _ (w.trunc v) _ ha⟩
  · rw [hi, memWrite_eq, memWriteMasked_ram h, completeNext_ok]
  · have h8 : w.bytes ≤ 8 := by cases w <;> decide
    rw [Memory.read_writeBE_inside _ _ _ _ _ _ hj, if_pos (getLsbD_fullMask (by omega)), extractLsb'_trunc _ _ (by omega)]

/-- Settles O27: each store writes the low bytes of its register. -/
theorem storeResults : Obligations.StoreResults := by
  intro s rt base o pa h i n hi h64
  simp only [List.mem_cons, List.not_mem_nil, or_false, Prod.mk.injEq] at hi
  rcases hi with ⟨rfl, rfl⟩ | ⟨rfl, rfl⟩ | ⟨rfl, rfl⟩ | ⟨rfl, rfl⟩
  · exact store_ram (w := .byte) h rfl
  · exact store_ram (w := .half) h rfl
  · exact store_ram (w := .word) h rfl
  · exact store_ram (w := .dword) h (after64_ok (h64 rfl) _)

/-! ## The regions (R78, R87 to R89) -/

theorem selectsAll_iff (mask : BitVec 8) (n : Nat) : selectsAll mask n = true ↔ ∀ j < n, mask.getLsbD j = true := by
  simp [selectsAll]

theorem selectsAll_fullMask (w : Width) : selectsAll fullMask w.bytes = true := by cases w <;> decide

theorem openBusAt_empty {p : Params} (h : p.openBus = []) (pa : Word) (n : Nat) : p.openBusAt pa n = 0 := by
  simp [Params.openBusAt, h]

section
variable {s : State} {pa : Word} {w : Width} {v : DWord} {mask : BitVec 8}

/-- SP memory, MI and VI take words only. -/
theorem phys_deviceWidth (h : regionKind s.params pa ∈ [RegionKind.spMem, .mi, .vi]) (hw : w ≠ .word) :
    physRead s pa w = .error .deviceWidth ∧ physWrite s pa w v = .error .deviceWidth := by
  simp only [List.mem_cons, List.not_mem_nil, or_false] at h
  rcases h with h | h | h <;> simp [physRead, physWrite, physWriteMasked, h, hw, selectsAll_fullMask]

theorem physRead_mi (h : regionKind s.params pa = .mi) :
    physRead s pa .word = .ok (zext32 (miRead s.params s.mi (pa - 0x04300000).toNat), s) := by simp [physRead, h]

theorem physWrite_mi (h : regionKind s.params pa = .mi) : physWrite s pa .word v =
    (miWrite s.mi (pa - 0x04300000).toNat (low32 v)).map fun m => { s with mi := m } := by
  simp only [physWrite, physWriteMasked, h, selectsAll_fullMask, if_true]
  cases miWrite s.mi (pa - 0x04300000).toNat (low32 v) <;> rfl

theorem physRead_vi (h : regionKind s.params pa = .vi) :
    physRead s pa .word = .ok (zext32 (viRead s.params s.vi (pa - 0x04400000).toNat), s) := by simp [physRead, h]

theorem physWrite_vi (h : regionKind s.params pa = .vi) : physWrite s pa .word v = .ok { s with
    vi := (viWrite s.vi s.mi (pa - 0x04400000).toNat (low32 v)).1
    mi := (viWrite s.vi s.mi (pa - 0x04400000).toNat (low32 v)).2 } := by
  simp only [physWrite, physWriteMasked, h, selectsAll_fullMask, if_true]

/-- MI and VI refuse a store of a part of its unit. -/
theorem physWriteMasked_partial (h : regionKind s.params pa ∈ [RegionKind.mi, .vi]) (hm : selectsAll mask w.bytes = false) :
    physWriteMasked s pa w v mask = .error .partialDeviceWrite := by
  simp only [List.mem_cons, List.not_mem_nil, or_false] at h
  rcases h with h | h <;> simp [physWriteMasked, h, hm]

/-- A masked store of every byte to MI or VI is the whole store. -/
theorem physWriteMasked_whole (h : regionKind s.params pa ∈ [RegionKind.mi, .vi]) (hm : selectsAll mask w.bytes = true) :
    physWriteMasked s pa w v mask = physWrite s pa w v := by
  simp only [List.mem_cons, List.not_mem_nil, or_false] at h
  rcases h with h | h <;> simp only [physWrite, physWriteMasked, h, hm, selectsAll_fullMask]

theorem physRead_romWidth (h : regionKind s.params pa ∈ [RegionKind.cartRom, .pifRom]) (hw : w ≠ .word) :
    physRead s pa w = .error .romWidth := by
  simp only [List.mem_cons, List.not_mem_nil, or_false] at h
  rcases h with h | h <;> simp [physRead, h, hw]

theorem physWriteMasked_rom (h : regionKind s.params pa ∈ [RegionKind.cartRom, .pifRom]) :
    physWriteMasked s pa w v mask = .error .romWrite := by
  simp only [List.mem_cons, List.not_mem_nil, or_false] at h
  rcases h with h | h <;> simp [physWriteMasked, h]

theorem physRead_cartRom (h : regionKind s.params pa = .cartRom) : physRead s pa .word =
    .ok (if pa.toNat - 0x10000000 + 4 ≤ s.romLen then s.mem.readBE pa.toNat 4 else Width.word.trunc (s.params.openBusAt pa 4), s) := by
  simp only [physRead, h, if_true]
  rfl

theorem physRead_pifRom (h : regionKind s.params pa = .pifRom) : physRead s pa .word =
    .ok (if s.pifPresent then s.mem.readBE pa.toNat 4 else Width.word.trunc (s.params.openBusAt pa 4), s) := by simp [physRead, h]

end

/-! ## Every load and store as its bus access -/

section
variable {s u : State} {rt base : RegIdx} {o : BitVec 16} {pa : Word}

/-- An instruction that is a store is the bus write at the aligned unit of its address. -/
theorem store_bus (h : reachesBus s true (effAddr s base o) pa u) {i : Instr} {a : Word} {w : Width} {v : DWord} {mask : BitVec 8}
    (ha : a = alignDown pa w) (hi : exec i s = completeNext (memWriteMasked s (effAddr s base o) w v mask)) :
    exec i s = completeNext (orRefuse (physWriteMasked u a w v mask)) := by rw [hi, memWriteMasked_bus h, ha]

/-- The stores, each with the bus write it makes. -/
theorem exec_store_bus (h : reachesBus s true (effAddr s base o) pa u) {i : Instr} {r : Except Refusal State}
    (hi : (i, r) ∈ [(Instr.sb rt o base, physWrite u pa .byte (Width.byte.trunc (readReg s rt))),
        (.sh rt o base, physWrite u (alignDown pa .half) .half (Width.half.trunc (readReg s rt))),
        (.sw rt o base, physWrite u (alignDown pa .word) .word (Width.word.trunc (readReg s rt))),
        (.swl rt o base, physWriteMasked u (alignDown pa .word) .word (swlValue ((effAddr s base o).toNat % 4) (readReg s rt))
          (byteMask ((effAddr s base o).toNat % 4) 3)),
        (.swr rt o base, physWriteMasked u (alignDown pa .word) .word (swrValue ((effAddr s base o).toNat % 4) (readReg s rt))
          (byteMask 0 ((effAddr s base o).toNat % 4)))] ∨
      (ops64Enabled s = true ∧ (i, r) ∈ [(Instr.sd rt o base, physWrite u (alignDown pa .dword) .dword (readReg s rt)),
        (.sdl rt o base, physWriteMasked u (alignDown pa .dword) .dword (sdlValue ((effAddr s base o).toNat % 8) (readReg s rt))
          (byteMask ((effAddr s base o).toNat % 8) 7)),
        (.sdr rt o base, physWriteMasked u (alignDown pa .dword) .dword (sdrValue ((effAddr s base o).toNat % 8) (readReg s rt))
          (byteMask 0 ((effAddr s base o).toNat % 8)))])) :
    exec i s = completeNext (orRefuse r) := by
  simp only [List.mem_cons, List.not_mem_nil, or_false, Prod.mk.injEq] at hi
  rcases hi with (⟨rfl, rfl⟩ | ⟨rfl, rfl⟩ | ⟨rfl, rfl⟩ | ⟨rfl, rfl⟩ | ⟨rfl, rfl⟩) | ⟨h64, ⟨rfl, rfl⟩ | ⟨rfl, rfl⟩ | ⟨rfl, rfl⟩⟩
  · exact store_bus h (alignDown_byte pa).symm rfl
  · exact store_bus h rfl rfl
  · exact store_bus h rfl rfl
  · exact store_bus h rfl rfl
  · exact store_bus h rfl rfl
  · exact store_bus h rfl (after64_ok h64 _)
  · exact store_bus h rfl (after64_ok h64 _)
  · exact store_bus h rfl (after64_ok h64 _)

/-- What the bus answers to a store ends the instruction. -/
theorem completeNext_orRefuse {i : Instr} {r : Except Refusal State} (h : exec i s = completeNext (orRefuse r)) :
    (∀ t, r = .ok t → exec i s = .next (advance .next t)) ∧ (∀ e, r = .error e → exec i s = .refused e) :=
  ⟨fun t ht => by rw [h, ht]; rfl, fun e he => by rw [h, he]; rfl⟩

/-- A store-conditional with LLbit that reaches the bus. -/
theorem storeConditional_bus (h : reachesBus s true (effAddr s base o) pa u) (hl : s.llbit = true) {i : Instr} {a : Word} {w : Width}
    (ha : a = alignDown pa w) (hi : exec i s = storeConditional w rt o base s) :
    (∀ t, physWrite u a w (w.trunc (readReg s rt)) = .ok t → exec i s = .next (advance .next (writeReg t rt 1))) ∧
    (∀ e, physWrite u a w (w.trunc (readReg s rt)) = .error e → exec i s = .refused e) := by
  rw [hi, storeConditional_linked rt base o hl, memWriteMasked_bus h, ← ha]
  exact ⟨fun t ht => by rw [show physWriteMasked _ _ _ _ _ = _ from ht]; rfl,
    fun e he => by rw [show physWriteMasked _ _ _ _ _ = _ from he]; rfl⟩

end

/-- Settles O33: the access of each region, then each load and store as the access it makes. -/
theorem busRegions : Obligations.BusRegions := by
  refine ⟨fun s pa w v mask => ⟨fun h => ?_, phys_deviceWidth, fun h => ?_, fun h => ?_, fun h => ⟨physRead_vi h, physWrite_vi h⟩,
    fun h => ⟨?_, ?_⟩, physRead_romWidth, fun h => ⟨physWriteMasked_rom h, physWriteMasked_rom h⟩, fun h hlen => ?_, fun h hlen => ?_,
    physRead_pifRom, fun h => ?_, fun h => ?_, fun h => ?_, fun h => ?_⟩,
    fun s u rt base o pa a2 a4 a8 k4 k8 h2 h4 h8 hk4 hk8 => ⟨fun h => ⟨?_, ?_, ?_, ?_, ?_, ?_, ?_, ?_⟩, ?_, ?_⟩⟩
  · simp [physRead, physWrite, physWriteMasked, h]
  · simp [physRead, physWrite, physWriteMasked, h]
  · refine ⟨physRead_mi h, fun m hm => ?_, fun e he => ?_⟩
    · rw [physWrite_mi h, show miWrite _ _ (low32 v) = _ from hm]; rfl
    · rw [physWrite_mi h, show miWrite _ _ (low32 v) = _ from he]; rfl
  · rintro ⟨j, hj, hm⟩
    exact physWriteMasked_partial h (by
      rw [Bool.eq_false_iff, Ne, selectsAll_iff]
      exact fun hall => by simp [hall j hj] at hm)
  · exact fun hm => physWriteMasked_whole h ((selectsAll_iff mask _).2 hm)
  · rw [physRead_cartRom h, if_pos hlen]
  · rw [physRead_cartRom h, if_neg (Nat.not_le.2 hlen)]
  · simp [physRead, physWrite, physWriteMasked, h]
  · rw [openBusAt_empty h]; cases w <;> rfl
  · refine ⟨?_, ?_, (extRead s pa w).1, ?_⟩ <;> simp only [physRead, physWrite, physWriteMasked, h]
    rfl
  · simp [physRead, physWrite, physWriteMasked, h]
  -- the loads and stores: the three aligned addresses are those of the access
  all_goals obtain rfl := eq_alignDown (w := .half) h2
  all_goals obtain rfl := eq_alignDown (w := .word) h4
  all_goals obtain rfl := eq_alignDown (w := .dword) h8
  all_goals subst hk4 hk8
  · intro v t hv
    rw [← alignDown_byte pa] at hv
    have hm := memRead_bus_ok h hv
    exact ⟨loadWith_ok hm _, loadWith_ok hm _⟩
  · intro v t hv
    have hm := memRead_bus_ok h hv
    exact ⟨loadWith_ok hm _, loadWith_ok hm _⟩
  · intro v t hv
    have hm := memRead_bus_ok h hv
    exact ⟨loadWith_ok hm _, lwl_ok hm, fun hk => by rw [hk]; exact lwr_whole hm hk, fun hk => ⟨_, lwr_part hm hk⟩,
      loadLinked_ok hm, fun h64 => (after64_ok h64 _).trans (loadWith_ok hm _)⟩
  · intro h64 v t hv
    have hm := memRead_bus_ok h hv
    exact ⟨(after64_ok h64 _).trans (loadWith_ok hm _), ldl_ok h64 hm, ldr_ok h64 hm, (after64_ok h64 _).trans (loadLinked_ok hm)⟩
  · intro e he i hi
    rw [← alignDown_byte pa] at he
    exact (isLoad_byte rt base o i hi).of_stop (memRead_bus_error h he)
  · exact fun e he i hi => (isLoad_half rt base o i hi).of_stop (memRead_bus_error h he)
  · exact fun e he => ⟨fun i hi => (isLoad_word rt base o i hi).of_stop (memRead_bus_error h he),
      fun h64 => (isLoad_lwu rt base o h64).of_stop (memRead_bus_error h he)⟩
  · exact fun h64 e he i hi => (isLoad_dword rt base o h64 i hi).of_stop (memRead_bus_error h he)
  · intro h i r hi
    exact completeNext_orRefuse (exec_store_bus h hi)
  · intro h hl i r hi
    simp only [List.mem_singleton, Prod.mk.injEq] at hi
    rcases hi with ⟨rfl, rfl⟩ | ⟨h64, rfl, rfl⟩
    · exact storeConditional_bus h hl rfl rfl
    · exact storeConditional_bus h hl rfl (exec_scd rt base o h64)

end Sys2Proof.Machine
end

section
/-! PROOFS. The CACHE instruction (44_system.md R267) and the cache checker (20_memory.md R101): the operations by their codes, and the
elements of each set after them. -/

namespace Sys2Proof.Machine

/-! ## The instruction by its operation (R267) -/

/-- The operation of a CACHE code on the data cache (field 1) or the instruction cache (field 0). -/
def cacheOperation (op : BitVec 5) (pa : Word) (s : State) : Res State :=
  if op.extractLsb' 0 2 = 1 then operateData (op.extractLsb' 2 3) pa s else operateInstr (op.extractLsb' 2 3) pa s

section
variable {s : State} {op : BitVec 5} {o : BitVec 16} {base : RegIdx} {pa : Word} {cached : Bool}

theorem exec_cache_noSuchCache (hu : cp0Usable s = true) (h : 2 ≤ (op.extractLsb' 0 2).toNat) :
    exec (.cache op o base) s = .refused .noSuchCache := by
  show execCache op o base s = _
  simp only [execCache, requireCp0_ok hu, bind, Except.bind, ge_iff_le, h, if_true, completeNext_refuse]

/-- CACHE is stopped by what stops its translation. -/
theorem exec_cache_stop (hu : cp0Usable s = true) (h : (op.extractLsb' 0 2).toNat < 2) {st : Stop}
    (ht : translate (effAddr s base o) .load s = .error st) : exec (.cache op o base) s = completeNext (.error st) := by
  show execCache op o base s = _
  simp only [execCache, requireCp0_ok hu, bind, Except.bind, ge_iff_le, Nat.not_le.2 h, if_false, ht]

theorem exec_cache (hu : cp0Usable s = true) (h : (op.extractLsb' 0 2).toNat < 2)
    (ht : translate (effAddr s base o) .load s = .ok (pa, cached)) :
    exec (.cache op o base) s = completeNext (cacheOperation op pa s) := by
  show execCache op o base s = _
  simp only [execCache, requireCp0_ok hu, bind, Except.bind, ge_iff_le, Nat.not_le.2 h, if_false, ht, cacheOperation]

end

section
variable {s : State} {f : CacheSets → Except Refusal CacheSets} {d : CacheSets} {r : Refusal}

theorem withSets_off (h : s.params.cacheCheck = false) (f : CacheSets → Except Refusal CacheSets) : withSets s f = .ok s := by
  simp [withSets, h]

theorem withSets_ok (h : s.params.cacheCheck = true) (hf : f s.cache = .ok d) : withSets s f = .ok { s with cache := d } := by
  simp [withSets, h, hf, Except.map, orRefuse]

theorem withSets_refused (h : s.params.cacheCheck = true) (hf : f s.cache = .error r) : withSets s f = .error (.refuse r) := by
  simp [withSets, h, hf, Except.map, orRefuse]

theorem storeTag_ok (h : s.cp0.tagLo.extractLsb' 6 2 = 0) (f : CacheSets → Except Refusal CacheSets) : storeTag s f = withSets s f :=
  if_neg (not_not.2 h)

theorem storeTag_refused (h : s.cp0.tagLo.extractLsb' 6 2 ≠ 0) (f : CacheSets → Except Refusal CacheSets) :
    storeTag s f = .error (.refuse .tagState) := if_pos h

end

/-! ## The codes -/

section
variable (pa : Word) (s : State)

theorem cacheOperation_indexWritebackInvalidateData :
    cacheOperation 0x01 pa s = withSets s fun c => .ok (indexInvalidateData pa c) := rfl

theorem cacheOperation_indexLoadTagData : cacheOperation 0x05 pa s = .ok (loadTag s) := rfl

theorem cacheOperation_indexStoreTagData : cacheOperation 0x09 pa s = storeTag s (indexStoreTagData pa) := rfl

theorem cacheOperation_createDirtyExclusive : cacheOperation 0x0D pa s =
    if regionKind s.params pa = .ram then withSets (drawLine pa s) fun c => .ok (createDirtyData pa c)
    else .error (.refuse .cacheState) := rfl

theorem cacheOperation_hitInvalidateData : cacheOperation 0x11 pa s = withSets s (hitInvalidateData pa) := rfl

theorem cacheOperation_hitWritebackInvalidateData :
    cacheOperation 0x15 pa s = withSets s fun c => .ok (hitWritebackInvalidateData pa c) := rfl

theorem cacheOperation_hitWritebackData : cacheOperation 0x19 pa s = withSets s fun c => .ok (hitWritebackData pa c) := rfl

theorem cacheOperation_indexInvalidateInstr :
    cacheOperation 0x00 pa s = withSets s fun c => .ok (indexInvalidateInstr pa c) := rfl

theorem cacheOperation_indexLoadTagInstr : cacheOperation 0x04 pa s = .ok (loadTag s) := rfl

theorem cacheOperation_indexStoreTagInstr :
    cacheOperation 0x08 pa s = storeTag s fun c => .ok (indexInvalidateInstr pa c) := rfl

theorem cacheOperation_hitInvalidateInstr : cacheOperation 0x10 pa s = withSets s fun c => .ok (hitInvalidateInstr pa c) := rfl

theorem cacheOperation_fillInstr : cacheOperation 0x14 pa s = withSets s (fillInstr pa) := rfl

theorem cacheOperation_hitWritebackInstr : cacheOperation 0x18 pa s = .ok s := rfl

/-- The reserved operations. -/
theorem cacheOperation_reserved :
    ∀ op ∈ ([0x0C, 0x1C, 0x1D] : List (BitVec 5)), cacheOperation op pa s = .error (.refuse .reservedCacheOp) := by
  simp only [List.forall_mem_cons]
  exact ⟨rfl, rfl, rfl, List.forall_mem_nil _⟩

/-- Index Load Tag, of either cache, draws TagLo. -/
theorem cacheOperation_loadTag : ∀ op ∈ ([0x05, 0x04] : List (BitVec 5)), cacheOperation op pa s = .ok (loadTag s) := by
  simp only [List.forall_mem_cons]
  exact ⟨rfl, rfl, List.forall_mem_nil _⟩

/-- Index Store Tag, of either cache, refuses a tag with PState not 0. -/
theorem cacheOperation_storeTag_refused (h : s.cp0.tagLo.extractLsb' 6 2 ≠ 0) :
    ∀ op ∈ ([0x09, 0x08] : List (BitVec 5)), cacheOperation op pa s = .error (.refuse .tagState) := by
  simp only [List.forall_mem_cons, cacheOperation_indexStoreTagData, cacheOperation_indexStoreTagInstr, storeTag_refused h]
  exact ⟨trivial, trivial, List.forall_mem_nil _⟩

end

/-- The codes of the data and the instruction cache. -/
def primaryCacheOps : List (BitVec 5) := [0x01, 0x05, 0x09, 0x0D, 0x11, 0x15, 0x19, 0x1D, 0x00, 0x04, 0x08, 0x0C, 0x10, 0x14, 0x18, 0x1C]

theorem field_of_primaryCacheOps : ∀ op ∈ primaryCacheOps, (op.extractLsb' 0 2).toNat < 2 := by decide

/-! ## The line of an address -/

theorem lineBase_toNat (pa : Word) : (lineBase pa).toNat = pa.toNat / 16 * 16 := by
  have hmask : ∀ i < 32, (15 : Word).getLsbD i = decide (i < 4) := by decide
  have hshift : lineBase pa = (pa >>> 4) <<< 4 := by
    apply BitVec.eq_of_getLsbD_eq
    intro i hi
    rw [lineBase, BitVec.getLsbD_and, BitVec.getLsbD_not, hmask i hi, BitVec.getLsbD_shiftLeft, BitVec.getLsbD_ushiftRight]
    by_cases h4 : i < 4
    · simp [h4]
    · simp [h4, hi, Nat.add_sub_cancel' (Nat.le_of_not_lt h4)]
  have hlt := pa.isLt
  rw [hshift, BitVec.toNat_shiftLeft, BitVec.toNat_ushiftRight, Nat.shiftRight_eq_div_pow, Nat.shiftLeft_eq]
  omega

/-- Create Dirty Exclusive draws the bytes of the line only. -/
theorem drawLine_read_outside (pa : Word) (s : State) {a : Nat} (h : a < pa.toNat / 16 * 16 ∨ pa.toNat / 16 * 16 + 16 ≤ a) :
    (drawLine pa s).mem.read a = s.mem.read a := by
  simp only [drawLine, lineBase_toNat]
  rw [Memory.read_writeBE_outside _ _ _ _ _ _ (by omega), Memory.read_writeBE_outside _ _ _ _ _ _ (by omega)]
  rfl

theorem drawLine_shape (pa : Word) (s : State) : drawLine pa s = { s with draws := s.draws + 2, mem := (drawLine pa s).mem } := rfl

/-- Settles O42: with the checker off no operation has an additional effect. -/
theorem cacheWithoutChecker : Obligations.CacheWithoutChecker := by
  refine ⟨fun s base o op hu => ⟨exec_cache_noSuchCache hu, fun h => ⟨fun e s' ht => ?_, fun r ht => exec_cache_stop hu h ht⟩⟩,
    fun s base o pa cached hu hoff ht => ?_⟩
  · obtain rfl := (translate_raise ht).1
    exact exec_cache_stop hu h ht
  have hexec : ∀ {op : BitVec 5}, op ∈ primaryCacheOps → exec (.cache op o base) s = completeNext (cacheOperation op pa s) :=
    fun h => exec_cache hu (field_of_primaryCacheOps _ h) ht
  refine ⟨fun op hop => ?_, fun op hop => ⟨fun htag => ?_, fun htag => ?_⟩, fun op hop => ⟨low32 (draw s).1, ?_⟩,
    fun hram => ⟨(drawLine pa s).mem, ?_, fun a ha => drawLine_read_outside pa s ha⟩, fun hram => ?_, fun op hop => ?_⟩
  · rw [hexec (by revert op; decide)]
    have hnone : cacheOperation op pa s = .ok s := by
      revert op
      simp only [List.forall_mem_cons, cacheOperation_indexWritebackInvalidateData, cacheOperation_hitInvalidateData,
        cacheOperation_hitWritebackInvalidateData, cacheOperation_hitWritebackData, cacheOperation_indexInvalidateInstr,
        cacheOperation_hitInvalidateInstr, cacheOperation_fillInstr, cacheOperation_hitWritebackInstr, withSets_off hoff]
      simp
    rw [hnone, completeNext_ok]
  · rw [hexec (by revert op; decide)]
    have hnone : cacheOperation op pa s = .ok s := by
      revert op
      simp only [List.forall_mem_cons, cacheOperation_indexStoreTagData, cacheOperation_indexStoreTagInstr, storeTag_ok htag,
        withSets_off hoff]
      simp
    rw [hnone, completeNext_ok]
  · rw [hexec (by revert op; decide), cacheOperation_storeTag_refused pa s htag op hop, completeNext_refuse]
  · rw [hexec (by revert op; decide), cacheOperation_loadTag pa s op hop, completeNext_ok]
    rfl
  · rw [hexec (by decide), cacheOperation_createDirtyExclusive, if_pos hram, withSets_off (by exact hoff), completeNext_ok, drawLine_shape]
  · rw [hexec (by decide), cacheOperation_createDirtyExclusive, if_neg hram, completeNext_refuse]
  · rw [hexec (by revert op; decide), cacheOperation_reserved pa s op hop, completeNext_refuse]

end Sys2Proof.Machine
end

section
/-! PROOFS. The sets of the cache checker (20_memory.md R101, 44_system.md R267): which lines and indices each holds after an access, a CACHE
operation and an external write. -/

namespace Sys2Proof.Machine

/-! ## Elements of sets -/

section
variable {n : Nat} {x y : BitVec n} {l : List (BitVec n)}

@[simp] theorem mem_setAdd : x ∈ setAdd y l ↔ x = y ∨ x ∈ l := by
  unfold setAdd
  split
  · next h => exact ⟨.inr, fun hx => hx.elim (fun e => e ▸ h) id⟩
  · exact List.mem_cons

@[simp] theorem mem_setRemove : x ∈ setRemove y l ↔ x ∈ l ∧ x ≠ y := by simp [setRemove]

@[simp] theorem mem_withoutIndex {idx : BitVec 9} : x ∈ withoutIndex idx l ↔ x ∈ l ∧ x.setWidth 9 ≠ idx := by simp [withoutIndex]

end

section
variable (pa : Word)

/-- The cache index of an address is the low 9 bits of its line. -/
theorem dataIndex_eq : dataIndex pa = (dataLine pa).setWidth 9 := by
  apply BitVec.eq_of_getLsbD_eq
  intro j hj
  simp [dataIndex, dataLine, hj, show j < 28 by omega]

theorem instrIndex_eq : instrIndex pa = (instrLine pa).setWidth 9 := by
  apply BitVec.eq_of_getLsbD_eq
  intro j hj
  simp [instrIndex, instrLine, hj, show j < 27 by omega]

end

/-! ## Accesses (R101) -/

/-- The lines of a set that stay when the lines at the index of `k` other than `k` are evicted. -/
def evictIndexOf {n : Nat} (k : BitVec n) (l : List (BitVec n)) : List (BitVec n) :=
  l.filter fun y => y == k || y.setWidth 9 != k.setWidth 9

@[simp] theorem mem_evictIndexOf {n : Nat} {x k : BitVec n} {l : List (BitVec n)} :
    x ∈ evictIndexOf k l ↔ x ∈ l ∧ (x = k ∨ x.setWidth 9 ≠ k.setWidth 9) := by simp [evictIndexOf]

/-- A line that is not in the set does not stay there. -/
theorem mem_evictIndexOf_of_notMem {n : Nat} {x k : BitVec n} {l : List (BitVec n)} (h : k ∉ l) :
    x ∈ evictIndexOf k l ↔ x ∈ l ∧ x.setWidth 9 ≠ k.setWidth 9 := by
  rw [mem_evictIndexOf]
  refine and_congr_right fun hx => or_iff_right ?_
  rintro rfl
  exact h hx

/-- A line that is added is there whether it stayed or not. -/
theorem eq_or_mem_evictIndexOf {n : Nat} {x k : BitVec n} {l : List (BitVec n)} :
    (x = k ∨ x ∈ evictIndexOf k l) ↔ x = k ∨ (x ∈ l ∧ x.setWidth 9 ≠ k.setWidth 9) := by
  by_cases h : x = k <;> simp [h]

/-- A set of stale lines after a write to line `k`, which is stale then if the cache holds it. -/
def markStale {n : Nat} (write : Bool) (k : BitVec n) (present stale : List (BitVec n)) : List (BitVec n) :=
  if write && decide (k ∈ present) then setAdd k stale else stale

@[simp] theorem mem_markStale {n : Nat} {write : Bool} {x k : BitVec n} {present stale : List (BitVec n)} :
    x ∈ markStale write k present stale ↔ (write = true ∧ x = k ∧ k ∈ present) ∨ x ∈ stale := by
  cases write <;> by_cases h : k ∈ present <;> simp [markStale, h]

section
variable {pa : Word} {store : Bool} {c : CacheSets}

theorem cacheCheckData_cached_refused (h : (dataLine pa).setWidth 9 ∉ c.dcInit ∨ dataLine pa ∈ c.dcStale) :
    cacheCheckData pa store true c = .error .cacheState := by
  rw [← dataIndex_eq] at h
  simp only [cacheCheckData, if_true]
  exact if_pos (by simpa using h)

theorem cacheCheckData_cached (hi : (dataLine pa).setWidth 9 ∈ c.dcInit) (hs : dataLine pa ∉ c.dcStale) :
    cacheCheckData pa store true c = .ok { c with
      dcPresent := setAdd (dataLine pa) (evictIndexOf (dataLine pa) c.dcPresent)
      dcDirty := if store then setAdd (dataLine pa) (evictIndexOf (dataLine pa) c.dcDirty) else evictIndexOf (dataLine pa) c.dcDirty
      dcStale := evictIndexOf (dataLine pa) c.dcStale
      icStale := markStale store (instrLine pa) c.icPresent c.icStale } := by
  rw [← dataIndex_eq] at hi
  cases store <;> by_cases hp : instrLine pa ∈ c.icPresent <;>
    simp [cacheCheckData, evictOtherData, evictIndexOf, markStale, hi, hs, hp]

theorem cacheCheckData_uncached_refused (h : dataLine pa ∈ c.dcDirty) : cacheCheckData pa store false c = .error .cacheState := by
  simp [cacheCheckData, h]

theorem cacheCheckData_uncached (h : dataLine pa ∉ c.dcDirty) : cacheCheckData pa store false c = .ok { c with
    dcStale := markStale store (dataLine pa) c.dcPresent c.dcStale
    icStale := markStale store (instrLine pa) c.icPresent c.icStale } := by
  cases store <;> by_cases hd : dataLine pa ∈ c.dcPresent <;> by_cases hp : instrLine pa ∈ c.icPresent <;>
    simp [cacheCheckData, markStale, h, hd, hp]

/-- Whether a data line of the instruction line of an address is dirty. -/
theorem dataLinesOf_any_iff {i : BitVec 27} {l : List (BitVec 28)} : (dataLinesOf i).any (fun d => decide (d ∈ l)) = true ↔
    i ++ (0 : BitVec 1) ∈ l ∨ i ++ (1 : BitVec 1) ∈ l := by simp [dataLinesOf]

theorem dataLinesOf_clean {i : BitVec 27} {l : List (BitVec 28)} (h0 : i ++ (0 : BitVec 1) ∉ l) (h1 : i ++ (1 : BitVec 1) ∉ l) :
    (dataLinesOf i).any (fun d => decide (d ∈ l)) = false := by
  rw [Bool.eq_false_iff, Ne, dataLinesOf_any_iff, not_or]
  exact ⟨h0, h1⟩

theorem cacheCheckFetch_refused {cached : Bool}
    (h : (dataLinesOf (instrLine pa)).any (fun d => decide (d ∈ c.dcDirty)) = true) :
    cacheCheckFetch pa cached c = .error .cacheState := if_pos h

theorem cacheCheckFetch_uncached (h : (dataLinesOf (instrLine pa)).any (fun d => decide (d ∈ c.dcDirty)) = false) :
    cacheCheckFetch pa false c = .ok c := by
  simp only [cacheCheckFetch, h, Bool.false_eq_true, if_false]

theorem cacheCheckFetch_cached_refused (h : (instrLine pa).setWidth 9 ∉ c.icInit ∨ instrLine pa ∈ c.icStale)
    (hd : (dataLinesOf (instrLine pa)).any (fun d => decide (d ∈ c.dcDirty)) = false) :
    cacheCheckFetch pa true c = .error .cacheState := by
  rw [← instrIndex_eq] at h
  simp only [cacheCheckFetch, hd, Bool.false_eq_true, if_false, if_true]
  exact if_pos (by simpa using h)

theorem cacheCheckFetch_cached (hi : (instrLine pa).setWidth 9 ∈ c.icInit) (hs : instrLine pa ∉ c.icStale)
    (hd : (dataLinesOf (instrLine pa)).any (fun d => decide (d ∈ c.dcDirty)) = false) :
    cacheCheckFetch pa true c = .ok { c with
      icPresent := setAdd (instrLine pa) (evictIndexOf (instrLine pa) c.icPresent)
      icStale := evictIndexOf (instrLine pa) c.icStale } := by
  rw [← instrIndex_eq] at hi
  simp only [cacheCheckFetch, hd, Bool.false_eq_true, if_false, if_true]
  exact if_neg (by simp [hi, hs])

end

section
variable {s : State} {pa : Word} {kind : AccessKind} {cached : Bool} {d : CacheSets} {r : Refusal}

/-- The checker for a load or store, as a result on the state. -/
theorem cacheCheck_data (hon : s.params.cacheCheck = true) (hk : kind ≠ .fetch) : cacheCheck pa kind cached s =
    (cacheCheckData pa (decide (kind = .store)) cached s.cache).map fun c => { s with cache := c } := by
  cases kind with
  | fetch => exact absurd rfl hk
  | load =>
    show cacheCheck pa .load cached s = (cacheCheckData pa false cached s.cache).map _
    simp only [cacheCheck, hon, if_true]
    cases cacheCheckData pa false cached s.cache <;> rfl
  | store =>
    show cacheCheck pa .store cached s = (cacheCheckData pa true cached s.cache).map _
    simp only [cacheCheck, hon, if_true]
    cases cacheCheckData pa true cached s.cache <;> rfl

theorem cacheCheck_fetch (hon : s.params.cacheCheck = true) : cacheCheck pa .fetch cached s =
    (cacheCheckFetch pa cached s.cache).map fun c => { s with cache := c } := by
  simp only [cacheCheck, hon, if_true]
  cases cacheCheckFetch pa cached s.cache <;> rfl

end

/-! ## External writes (R101) -/

theorem externalCheck_refused {a : Nat} {c : CacheSets} (h : dataLine (BitVec.ofNat 32 a) ∈ c.dcDirty) :
    externalCheck a c = .error .cacheState := if_pos h

theorem externalCheck_ok {a : Nat} {c : CacheSets} (h : dataLine (BitVec.ofNat 32 a) ∉ c.dcDirty) : externalCheck a c = .ok { c with
    dcStale := markStale true (dataLine (BitVec.ofNat 32 a)) c.dcPresent c.dcStale
    icStale := markStale true (instrLine (BitVec.ofNat 32 a)) c.icPresent c.icStale } := by
  by_cases hd : dataLine (BitVec.ofNat 32 a) ∈ c.dcPresent <;> by_cases hp : instrLine (BitVec.ofNat 32 a) ∈ c.icPresent <;>
    simp [externalCheck, markStale, h, hd, hp]

/-! ## CACHE operations on the sets (R267) -/

section
variable {pa : Word} {c : CacheSets}

/-- Index Store Tag (D) is refused for a dirty line at the index, and is else Index Writeback Invalidate (D). -/
theorem indexStoreTagData_ok (h : ∀ x ∈ c.dcDirty, x.setWidth 9 ≠ (dataLine pa).setWidth 9) :
    indexStoreTagData pa c = .ok (indexInvalidateData pa c) := if_neg (by simpa [dataIndex_eq] using h)

theorem indexStoreTagData_refused (h : ∃ x ∈ c.dcDirty, x.setWidth 9 = (dataLine pa).setWidth 9) :
    indexStoreTagData pa c = .error .cacheState := if_pos (by simpa [dataIndex_eq] using h)

/-- Hit Invalidate (D) is refused for a dirty line, and is else Hit Writeback Invalidate (D) but for the dirty set. -/
theorem hitInvalidateData_ok (h : dataLine pa ∉ c.dcDirty) : hitInvalidateData pa c = .ok { c with
    dcPresent := setRemove (dataLine pa) c.dcPresent, dcStale := setRemove (dataLine pa) c.dcStale } := if_neg h

theorem hitInvalidateData_refused (h : dataLine pa ∈ c.dcDirty) : hitInvalidateData pa c = .error .cacheState := if_pos h

/-- Fill (I) is refused while a data line of the instruction line is dirty. -/
theorem fillInstr_ok (h : (dataLinesOf (instrLine pa)).any (fun d => decide (d ∈ c.dcDirty)) = false) :
    fillInstr pa c = .ok { indexInvalidateInstr pa c with
      icPresent := setAdd (instrLine pa) (indexInvalidateInstr pa c).icPresent } :=
  if_neg (by simp only [h, Bool.false_eq_true, not_false_eq_true])

theorem fillInstr_refused (h : (dataLinesOf (instrLine pa)).any (fun d => decide (d ∈ c.dcDirty)) = true) :
    fillInstr pa c = .error .cacheState := if_pos h

end

section
variable {s : State} {op : BitVec 5} {o : BitVec 16} {base : RegIdx} {pa : Word} {cached : Bool}
  {f : CacheSets → Except Refusal CacheSets}

/-- An operation that has an effect on the sets. -/
theorem exec_cache_sets (hu : cp0Usable s = true) (hon : s.params.cacheCheck = true)
    (ht : translate (effAddr s base o) .load s = .ok (pa, cached)) (hop : op ∈ primaryCacheOps)
    (hf : cacheOperation op pa s = withSets s f) {d : CacheSets} (hd : f s.cache = .ok d) :
    exec (.cache op o base) s = .next (advance .next { s with cache := d }) := by
  rw [exec_cache hu (field_of_primaryCacheOps op hop) ht, hf, withSets_ok hon hd, completeNext_ok]

/-- An operation that the sets refuse. -/
theorem exec_cache_refused (hu : cp0Usable s = true) (hon : s.params.cacheCheck = true)
    (ht : translate (effAddr s base o) .load s = .ok (pa, cached)) (hop : op ∈ primaryCacheOps)
    (hf : cacheOperation op pa s = withSets s f) {r : Refusal} (hr : f s.cache = .error r) : exec (.cache op o base) s = .refused r := by
  rw [exec_cache hu (field_of_primaryCacheOps op hop) ht, hf, withSets_refused hon hr, completeNext_refuse]

/-- Index Writeback Invalidate (D), and Index Store Tag (D) where it is not refused, invalidate the index. -/
theorem exec_cache_indexInvalidateData (hu : cp0Usable s = true) (hon : s.params.cacheCheck = true)
    (ht : translate (effAddr s base o) .load s = .ok (pa, cached)) (hop : op ∈ ([0x01, 0x09] : List (BitVec 5)))
    (htag : op = 0x09 → s.cp0.tagLo.extractLsb' 6 2 = 0)
    (hidx : op = 0x09 → ∀ x ∈ s.cache.dcDirty, x.setWidth 9 ≠ (dataLine pa).setWidth 9) :
    exec (.cache op o base) s = .next (advance .next { s with cache := indexInvalidateData pa s.cache }) := by
  simp only [List.mem_cons, List.not_mem_nil, or_false] at hop
  rcases hop with rfl | rfl
  · exact exec_cache_sets hu hon ht (by decide) (cacheOperation_indexWritebackInvalidateData pa s) rfl
  · exact exec_cache_sets hu hon ht (by decide) ((cacheOperation_indexStoreTagData pa s).trans (storeTag_ok (htag rfl) _))
      (indexStoreTagData_ok (hidx rfl))

/-- Index Invalidate (I), and Index Store Tag (I) where it is not refused, invalidate the index. -/
theorem exec_cache_indexInvalidateInstr (hu : cp0Usable s = true) (hon : s.params.cacheCheck = true)
    (ht : translate (effAddr s base o) .load s = .ok (pa, cached)) (hop : op ∈ ([0x00, 0x08] : List (BitVec 5)))
    (htag : op = 0x08 → s.cp0.tagLo.extractLsb' 6 2 = 0) :
    exec (.cache op o base) s = .next (advance .next { s with cache := indexInvalidateInstr pa s.cache }) := by
  simp only [List.mem_cons, List.not_mem_nil, or_false] at hop
  rcases hop with rfl | rfl
  · exact exec_cache_sets hu hon ht (by decide) (cacheOperation_indexInvalidateInstr pa s) rfl
  · exact exec_cache_sets hu hon ht (by decide) ((cacheOperation_indexStoreTagInstr pa s).trans (storeTag_ok (htag rfl) _)) rfl

/-- Create Dirty Exclusive in RAM draws the line and marks it dirty. -/
theorem exec_cache_createDirty (hu : cp0Usable s = true) (hon : s.params.cacheCheck = true)
    (ht : translate (effAddr s base o) .load s = .ok (pa, cached)) (hram : regionKind s.params pa = .ram) :
    exec (.cache 0x0D o base) s = .next (advance .next { s with
      draws := s.draws + 2, mem := (drawLine pa s).mem, cache := createDirtyData pa s.cache }) := by
  have hsets : withSets (drawLine pa s) (fun c => .ok (createDirtyData pa c)) =
      .ok { drawLine pa s with cache := createDirtyData pa s.cache } := withSets_ok (by exact hon) rfl
  rw [exec_cache hu (by decide) ht, cacheOperation_createDirtyExclusive, if_pos hram, hsets, completeNext_ok, drawLine_shape]

end

/-- Settles O43: the accesses, the CACHE operations and the external writes, each by its equation on the sets. -/
theorem cacheChecker : Obligations.CacheChecker := by
  refine ⟨fun s pa kind c D I hon hc hD hI => ?_, fun s base o pa cached c D I hu hon ht hc hD hI => ?_, fun a c D I _ hD hI => ?_⟩
  · -- loads, stores and fetches
    obtain rfl : D = dataLine pa := hD
    obtain rfl : I = instrLine pa := hI
    subst hc
    refine ⟨fun hk => ⟨fun h => ?_, fun hi hs => ?_, fun h => ?_, fun h => ?_⟩, fun cached h => ?_,
      fun h0 h1 => ⟨?_, fun h => ?_, fun hi hs => ?_⟩⟩
    · rw [cacheCheck_data hon hk, cacheCheckData_cached_refused h]
      rfl
    · have heq := cacheCheck_data (pa := pa) (cached := true) hon hk
      rw [cacheCheckData_cached hi hs] at heq
      refine ⟨_, heq, rfl, fun x => ?_, fun x => ?_, fun x => mem_evictIndexOf_of_notMem hs, fun x => ?_⟩
      · rw [mem_setAdd, eq_or_mem_evictIndexOf]
      · by_cases hst : kind = .store <;> simp only [hst, decide_true, decide_false, if_true, if_false, mem_setAdd, mem_evictIndexOf,
          true_and, false_and, false_or, Bool.false_eq_true]
      · rw [mem_markStale, decide_eq_true_eq]
    · rw [cacheCheck_data hon hk, cacheCheckData_uncached_refused h]
      rfl
    · have heq := cacheCheck_data (pa := pa) (cached := false) hon hk
      rw [cacheCheckData_uncached h] at heq
      refine ⟨_, heq, rfl, fun x => ?_, fun x => ?_⟩ <;> rw [mem_markStale, decide_eq_true_eq]
    · rw [cacheCheck_fetch hon, cacheCheckFetch_refused (dataLinesOf_any_iff.2 h)]
      rfl
    all_goals have hd := dataLinesOf_clean h0 h1
    · rw [cacheCheck_fetch hon, cacheCheckFetch_uncached hd]
      rfl
    · rw [cacheCheck_fetch hon, cacheCheckFetch_cached_refused h hd]
      rfl
    · have heq := cacheCheck_fetch (pa := pa) (cached := true) hon
      rw [cacheCheckFetch_cached hi hs hd] at heq
      refine ⟨_, heq, rfl, fun x => ?_, fun x => mem_evictIndexOf_of_notMem hs⟩
      rw [mem_setAdd, eq_or_mem_evictIndexOf]
  · -- the CACHE operations, by their codes
    obtain rfl : D = dataLine pa := hD
    obtain rfl : I = instrLine pa := hI
    subst hc
    have hexec : ∀ {op : BitVec 5}, op ∈ primaryCacheOps → exec (.cache op o base) s = completeNext (cacheOperation op pa s) :=
      fun h => exec_cache hu (field_of_primaryCacheOps _ h) ht
    refine ⟨fun op hop htag hidx => ?_, fun htag hidx => ?_, fun op hop htag => ?_, fun op hop => ⟨low32 (draw s).1, ?_⟩,
      fun hram => ?_, fun hram => ?_, fun h => ?_, fun op hop hdirty => ?_, fun op hop htag => ?_, ?_, fun h => ?_, fun h0 h1 => ?_, ?_,
      fun op hop => ?_⟩
    · refine ⟨_, exec_cache_indexInvalidateData hu hon ht hop htag hidx, rfl, ?_, ?_, ?_, ?_⟩ <;> intro x <;>
        simp only [indexInvalidateData, mem_withoutIndex, mem_setAdd, dataIndex_eq]
    · exact exec_cache_refused hu hon ht (by decide) ((cacheOperation_indexStoreTagData pa s).trans (storeTag_ok htag _))
        (indexStoreTagData_refused hidx)
    · rw [hexec (by revert op; decide), cacheOperation_storeTag_refused pa s htag op hop, completeNext_refuse]
    · rw [hexec (by revert op; decide), cacheOperation_loadTag pa s op hop, completeNext_ok]
      rfl
    · refine ⟨_, _, exec_cache_createDirty hu hon ht hram, rfl, ?_, ?_, ?_, ?_⟩ <;> intro x <;>
        simp only [createDirtyData, indexInvalidateData, mem_withoutIndex, mem_setAdd, dataIndex_eq]
    · rw [hexec (by decide), cacheOperation_createDirtyExclusive, if_neg hram, completeNext_refuse]
    · exact exec_cache_refused hu hon ht (by decide) (cacheOperation_hitInvalidateData pa s) (hitInvalidateData_refused h)
    · simp only [List.mem_cons, List.not_mem_nil, or_false] at hop
      rcases hop with rfl | rfl | rfl
      · have hd := hdirty rfl
        refine ⟨_, exec_cache_sets hu hon ht (by decide) (cacheOperation_hitInvalidateData pa s) (hitInvalidateData_ok hd), rfl,
          fun x => by simp, fun x => ?_, fun x => by simp⟩
        exact ⟨fun hx => ⟨hx, fun e => hd (e ▸ hx)⟩, And.left⟩
      · refine ⟨_, exec_cache_sets hu hon ht (by decide) (cacheOperation_hitWritebackInvalidateData pa s) rfl, rfl, ?_, ?_, ?_⟩ <;>
          intro x <;> simp [hitWritebackInvalidateData]
      · refine ⟨_, exec_cache_sets hu hon ht (by decide) (cacheOperation_hitWritebackData pa s) rfl, rfl, ?_, ?_, ?_⟩ <;>
          intro x <;> simp [hitWritebackData]
    · refine ⟨_, exec_cache_indexInvalidateInstr hu hon ht hop htag, rfl, ?_, ?_, ?_⟩ <;> intro x <;>
        simp only [indexInvalidateInstr, mem_withoutIndex, mem_setAdd, instrIndex_eq]
    · refine ⟨_, exec_cache_sets hu hon ht (by decide) (cacheOperation_hitInvalidateInstr pa s) rfl, rfl, ?_, ?_⟩ <;> intro x <;>
        simp only [hitInvalidateInstr, mem_setRemove]
    · exact exec_cache_refused hu hon ht (by decide) (cacheOperation_fillInstr pa s) (fillInstr_refused (dataLinesOf_any_iff.2 h))
    · refine ⟨_, exec_cache_sets hu hon ht (by decide) (cacheOperation_fillInstr pa s) (fillInstr_ok (dataLinesOf_clean h0 h1)), rfl,
        ?_, ?_, ?_⟩ <;> intro x <;> simp only [indexInvalidateInstr, mem_withoutIndex, mem_setAdd, instrIndex_eq]
    · rw [hexec (by decide), cacheOperation_hitWritebackInstr, completeNext_ok]
    · rw [hexec (by revert op; decide), cacheOperation_reserved pa s op hop, completeNext_refuse]
  · -- external writes
    obtain rfl : D = dataLine (BitVec.ofNat 32 a) := hD
    obtain rfl : I = instrLine (BitVec.ofNat 32 a) := hI
    refine ⟨externalCheck_refused, fun h => ⟨_, externalCheck_ok h, rfl, fun x => ?_, fun x => ?_⟩⟩ <;> simp

end Sys2Proof.Machine
end

section
/-! PROOFS. The bytes of memory that change: by an instruction (43_loadstore.md R211, 20_memory.md R78, R80, 44_system.md R267) and by the
external agents (20_memory.md R90, 60_exceptions.md R301). -/

namespace Sys2Proof.Machine

/-! ## The effect of an instruction on memory and devices -/

section
variable {i : Instr} {f : Flow} {s u t : State}

theorem not_privileged_of_storeForm {w : Width} {o : BitVec 16} {base : RegIdx} (h : storeForm i = some (w, o, base)) :
    privileged i = false := by
  cases i with
  | sb | sh | sw | swl | swr | sc | sd | sdl | sdr | scd => rfl
  | _ => cases h

/-- Memory after an effect: as it was, or with a write in the unit a storing instruction addresses; or the effect is CACHE's. -/
theorem Effect.mem_cases (h : Effect i s f u) : u.mem = s.mem ∨
    (∃ w o base, storeForm i = some (w, o, base) ∧ ∃ pa cached, translate (effAddr s base o) .store s = .ok (pa, cached) ∧
      ∃ mask v, u.mem = s.mem.writeBE (alignDown pa w).toNat mask w.bytes v) ∨
    privileged i = true := by
  have of_store : ∀ {w o base v mask} {u : State}, storeForm i = some (w, o, base) →
      memWriteMasked s (effAddr s base o) w v mask = .ok u → u.mem = s.mem ∨ ∃ w o base, storeForm i = some (w, o, base) ∧
        ∃ pa cached, translate (effAddr s base o) .store s = .ok (pa, cached) ∧
          ∃ mask v, u.mem = s.mem.writeBE (alignDown pa w).toNat mask w.bytes v := by
    intro w o base v mask u hf hu
    obtain ⟨pa, cached, ht, -, -, hm⟩ := memWriteMasked_eq_ok hu
    exact hm.imp id fun hm => ⟨w, o, base, hf, pa, cached, ht, mask, v, hm⟩
  cases h with
  | store hf hu => exact (of_store hf hu).imp id .inl
  | storeAndWrite hf hu _ x => rw [writeReg_mem]; exact (of_store hf hu).imp id .inl
  | write | branchLink => exact .inl (writeReg_mem _ _ _)
  | moveFrom | linked => exact .inl (writeReg_mem _ _ _)
  | pair | stay | branch => exact .inl rfl
  | eret _ hp | cp0Write hp | tlbRead hp | tlbWrite hp | tlbProbe hp | cacheData hp | cacheInstr hp => exact .inr (.inr hp)

/-- The devices and the external mark are the same in two states. -/
structure SameDevices (s u : State) : Prop where
  mi : u.mi = s.mi
  vi : u.vi = s.vi
  extActive : u.extActive = s.extActive

theorem SameDevices.of_cache (h : CacheEffect s u) : SameDevices s u := by
  rcases h with ⟨c, rfl⟩ | rfl | ⟨pa, c, rfl⟩ <;> exact ⟨rfl, rfl, rfl⟩

/-- An instruction that stores nothing changes no device register and marks no external store. -/
theorem Effect.sameDevices (h : Effect i s f u) (hf : storeForm i = none) : SameDevices s u := by
  cases h with
  | store hf' | storeAndWrite hf' => exact absurd (hf.symm.trans hf') (by simp)
  | write | branchLink => exact ⟨writeReg_mi _ _ _, writeReg_vi _ _ _, writeReg_extActive _ _ _⟩
  | moveFrom | linked => exact ⟨writeReg_mi _ _ _, writeReg_vi _ _ _, writeReg_extActive _ _ _⟩
  | pair | stay | branch | eret => exact ⟨rfl, rfl, rfl⟩
  | cp0Write _ _ h => obtain ⟨c, ti, rfl⟩ := cp0Write_eq_ok h; exact ⟨rfl, rfl, rfl⟩
  | tlbRead _ _ h => obtain ⟨_, rfl⟩ := tlbRead_eq_ok h; exact ⟨rfl, rfl, rfl⟩
  | tlbWrite _ _ d h => obtain ⟨-, rfl⟩ := tlbWrite_eq_ok h; exact ⟨rfl, rfl, rfl⟩
  | tlbProbe _ _ h => obtain ⟨x, d, rfl⟩ := tlbProbe_eq_ok h; exact ⟨rfl, rfl, rfl⟩
  | cacheData _ _ h => exact .of_cache (operateData_eq_ok h)
  | cacheInstr _ _ h => exact .of_cache (operateInstr_eq_ok h)

theorem exec_sameDevices (hf : storeForm i = none) (h : exec i s = .next t) : SameDevices s t := by
  rcases exec_next h with ⟨f, u, he, rfl⟩ | ⟨e, d, rfl⟩
  · obtain ⟨hmi, hvi, hext⟩ := he.sameDevices hf
    exact ⟨by rw [advance_mi, hmi], by rw [advance_vi, hvi], by rw [advance_extActive, hext]⟩
  · exact ⟨by rw [takeException_mi], by rw [takeException_vi], by rw [takeException_extActive]⟩

/-! ## The instructions that `RequireCP0()` guards (44_system.md R238) -/

/-- A result that changes no byte of memory, whether it completes or raises. -/
def KeepsMem {α : Type} (s : State) (state : α → State) (r : Res α) : Prop :=
  (∀ x, r = .ok x → (state x).mem = s.mem) ∧ ∀ e u, r = .error (.raise e u) → u.mem = s.mem

section
variable {α : Type} {state : α → State} {k : Res α}

theorem KeepsMem.ok {x : α} (h : (state x).mem = s.mem) : KeepsMem s state (.ok x) :=
  ⟨fun _ hx => Except.ok.inj hx ▸ h, fun _ _ hx => (nomatch hx)⟩

theorem KeepsMem.requireCp0 (h : KeepsMem s state k) : KeepsMem s state (do Machine.requireCp0 s; k) := by
  cases hu : cp0Usable s with
  | true => rw [requireCp0_ok hu]; exact h
  | false =>
    rw [requireCp0_raise hu]
    refine ⟨fun _ hx => (nomatch hx), fun e u hx => ?_⟩
    cases hx
    rfl

theorem KeepsMem.require64 (h : KeepsMem s state k) : KeepsMem s state (do Machine.require64 s; k) := by
  cases hu : ops64Enabled s with
  | true => rw [require64_ok hu]; exact h
  | false =>
    rw [require64_raise hu]
    refine ⟨fun _ hx => (nomatch hx), fun e u hx => ?_⟩
    cases hx
    rfl

end

theorem KeepsMem.complete {r : Res (Flow × State)} (h : KeepsMem s Prod.snd r) (ht : complete r = .next t) : t.mem = s.mem := by
  rcases complete_next ht with ⟨f, u, hr, rfl⟩ | ⟨e, u, hr, rfl⟩
  · rw [advance_mem]; exact h.1 _ hr
  · rw [takeException_mem]; exact h.2 e u hr

theorem KeepsMem.completeNext {r : Res State} (h : KeepsMem s id r) (ht : completeNext r = .next t) : t.mem = s.mem := by
  rcases completeNext_next ht with ⟨u, hr, rfl⟩ | ⟨e, u, hr, rfl⟩
  · rw [advance_mem]; exact h.1 _ hr
  · rw [takeException_mem]; exact h.2 e u hr

theorem KeepsMem.cp0Write (n : RegIdx) (v : DWord) : KeepsMem s id (cp0Write s n v) :=
  ⟨fun _ h => by obtain ⟨c, ti, rfl⟩ := cp0Write_eq_ok h; rfl, fun _ _ h => absurd h cp0Write_not_raise⟩

theorem KeepsMem.cp0Read (n : RegIdx) (rt : RegIdx) (v : DWord) :
    KeepsMem s Prod.snd (.ok (Flow.next, writeReg (cp0Read s n).2 rt v)) := by
  obtain ⟨d, hd⟩ := cp0Read_snd s n
  exact .ok (by rw [hd]; exact writeReg_mem _ _ _)

theorem KeepsMem.tlbWrite (d : Nat) (n : Fin 32) : KeepsMem s id (tlbWrite { s with draws := d } n) :=
  ⟨fun _ h => by obtain ⟨-, rfl⟩ := tlbWrite_eq_ok h; rfl, fun _ _ h => absurd h tlbWrite_not_raise⟩

theorem KeepsMem.refuse {α : Type} {state : α → State} (r : Refusal) : KeepsMem s state (.error (.refuse r)) :=
  ⟨fun _ h => (nomatch h), fun _ _ h => (nomatch h)⟩

/-- A privileged instruction other than CACHE changes no byte. -/
theorem exec_privileged_mem (hp : privileged i = true) (hc : ∀ op o base, i ≠ .cache op o base) (h : exec i s = .next t) :
    t.mem = s.mem := by
  cases i with
  | mfc0 rt rd => exact (KeepsMem.requireCp0 (.cp0Read rd rt _)).complete h
  | dmfc0 rt rd =>
    refine (KeepsMem.requireCp0 (.require64 ?_)).complete h
    split
    · exact .cp0Read rd rt _
    · exact .ok (writeReg_mem _ _ _)
  | mtc0 rt rd => exact (KeepsMem.requireCp0 (.cp0Write rd _)).completeNext h
  | dmtc0 rt rd =>
    refine (KeepsMem.requireCp0 (.require64 ?_)).completeNext h
    split
    · exact .cp0Write rd _
    · exact .refuse _
  | tlbr =>
    refine (KeepsMem.requireCp0 ⟨fun u hu => ?_, fun _ _ hu => absurd hu tlbRead_not_raise⟩).completeNext h
    obtain ⟨_, rfl⟩ := tlbRead_eq_ok hu
    rfl
  | tlbwi =>
    refine (KeepsMem.requireCp0 ?_).completeNext h
    split
    · exact .tlbWrite s.draws _
    · exact .refuse _
  | tlbwr =>
    refine (KeepsMem.requireCp0 ?_).completeNext h
    split
    · exact .tlbWrite (s.draws + 1) _
    · exact .refuse _
  | tlbp =>
    refine (KeepsMem.requireCp0 ⟨fun u hu => ?_, fun _ _ hu => absurd hu tlbProbe_not_raise⟩).completeNext h
    obtain ⟨x, d, rfl⟩ := tlbProbe_eq_ok hu
    rfl
  | eret =>
    refine (KeepsMem.requireCp0 (.ok ?_)).complete h
    exact exceptionReturn_mem s
  | cache op o base => exact absurd rfl (hc op o base)
  | _ => exact absurd hp Bool.false_ne_true

/-! ## CACHE (44_system.md R267) -/

theorem withSets_mem {g : CacheSets → Except Refusal CacheSets} (h : withSets s g = .ok u) : u.mem = s.mem := by
  obtain ⟨c, rfl⟩ := withSets_eq_ok h
  rfl

theorem storeTag_mem {g : CacheSets → Except Refusal CacheSets} (h : storeTag s g = .ok u) : u.mem = s.mem := by
  obtain ⟨c, rfl⟩ := storeTag_eq_ok h
  rfl

/-- An operation changes no byte, or draws the line of its address. -/
theorem cacheOperation_mem {op : BitVec 5} {pa : Word} (h : cacheOperation op pa s = .ok u) :
    u.mem = s.mem ∨ u.mem = (drawLine pa s).mem := by
  unfold cacheOperation at h
  split at h
  · unfold operateData at h
    split at h
    case h_2 => cases h; exact .inl rfl
    case h_3 => exact .inl (storeTag_mem h)
    case h_4 =>
      split at h
      · exact .inr (withSets_mem h)
      · simp at h
    case h_8 => simp at h
    all_goals exact .inl (withSets_mem h)
  · unfold operateInstr at h
    split at h
    case h_2 | h_6 => cases h; exact .inl rfl
    case h_3 => exact .inl (storeTag_mem h)
    case h_7 => simp at h
    all_goals exact .inl (withSets_mem h)

theorem cacheOperation_not_raise {op : BitVec 5} {pa : Word} {e : Exc} : cacheOperation op pa s ≠ .error (.raise e u) := by
  unfold cacheOperation
  split
  · exact operateData_not_raise
  · exact operateInstr_not_raise

theorem exec_cache_unusable (h : cp0Usable s = false) (op : BitVec 5) (o : BitVec 16) (base : RegIdx) :
    exec (.cache op o base) s = .next (takeException (.cpU 0) s) := by
  show execCache op o base s = _
  simp only [execCache, requireCp0_raise h, bind, Except.bind, completeNext_raise]

/-- CACHE changes no byte outside the line of its address. -/
theorem exec_cache_read_outside {op : BitVec 5} {o : BitVec 16} {base : RegIdx} {pa : Word} {cached : Bool}
    (ht : translate (effAddr s base o) .load s = .ok (pa, cached)) (h : exec (.cache op o base) s = .next t) {a : Nat}
    (ha : a < pa.toNat / 16 * 16 ∨ pa.toNat / 16 * 16 + 16 ≤ a) : t.mem.read a = s.mem.read a := by
  cases hu : cp0Usable s with
  | false =>
    rw [exec_cache_unusable hu] at h
    cases h
    rw [takeException_mem]
  | true =>
    by_cases hfield : (op.extractLsb' 0 2).toNat < 2
    · rw [exec_cache hu hfield ht] at h
      rcases completeNext_next h with ⟨v, hv, rfl⟩ | ⟨e, v, hv, -⟩
      · rw [advance_mem]
        rcases cacheOperation_mem hv with hm | hm <;> rw [hm]
        exact drawLine_read_outside pa s ha
      · exact absurd hv cacheOperation_not_raise
    · rw [exec_cache_noSuchCache hu (Nat.le_of_not_lt hfield)] at h
      cases h

end

/-- Settles O30: an effect writes memory only as a store, in its unit, or as CACHE, in its line. -/
theorem memoryFrame : Obligations.MemoryFrame := by
  refine ⟨fun i s t w o base hf h => ?_, fun i s t hf h => ?_⟩
  · rcases exec_next h with ⟨f, u, he, rfl⟩ | ⟨e, d, rfl⟩
    · rw [advance_mem]
      rcases he.mem_cases with hm | ⟨w', o', base', hf', pa, cached, ht, mask, v, hm⟩ | hp
      · rw [hm]; exact ⟨fun _ _ _ _ _ => rfl, fun _ _ => rfl⟩
      · obtain ⟨rfl, rfl, rfl⟩ : w' = w ∧ o' = o ∧ base' = base := by simpa using hf'.symm.trans hf
        refine ⟨fun pa' cached' ht' a ha => ?_, fun ⟨e, he⟩ => absurd (ht.symm.trans he) (by simp)⟩
        obtain ⟨rfl, rfl⟩ : pa' = pa ∧ cached' = cached := by simpa using ht'.symm.trans ht
        rw [hm, alignDown_toNat, Memory.read_writeBE_outside _ _ _ _ _ _ ha]
      · exact absurd hp (by simp [not_privileged_of_storeForm hf])
    · rw [takeException_mem]; exact ⟨fun _ _ _ _ _ => rfl, fun _ _ => rfl⟩
  · obtain ⟨hmi, hvi, hext⟩ := exec_sameDevices hf h
    refine ⟨hmi, hvi, hext, fun hc => ?_, ?_⟩
    · cases hp : privileged i with
      | true => exact exec_privileged_mem hp hc h
      | false =>
        rcases exec_next h with ⟨f, u, he, rfl⟩ | ⟨e, d, rfl⟩
        · rw [advance_mem]
          rcases he.mem_cases with hm | ⟨_, _, _, hf', -⟩ | hp'
          · exact hm
          · exact absurd (hf.symm.trans hf') (by simp)
          · exact absurd hp' (by simp [hp])
        · rw [takeException_mem]
    · rintro op o base rfl pa cached ht a ha
      exact exec_cache_read_outside ht h ha

/-! ## The external agents (R90, R301) -/

section
variable {l : List Host.Cell} {s t : State}

/-- The external agents may write RDRAM and SP memory only. -/
theorem externallyWritable_eq_false {p : Params} {a : Nat} (h1 : regionKind p (BitVec.ofNat 32 a) ≠ .ram)
    (h2 : regionKind p (BitVec.ofNat 32 a) ≠ .spMem) : externallyWritable p a = false := by
  unfold externallyWritable
  rw [Bool.and_eq_false_iff]
  right
  split <;> first | rfl | contradiction

/-- The external agents leave a byte they may not write. -/
theorem externalStores_read (h : externalStores l s = .ok t) {a : Nat} (ha : externallyWritable s.params a = false) :
    t.mem.read a = s.mem.read a := by
  induction l generalizing s with
  | nil => cases h; rfl
  | cons c l ih =>
    obtain ⟨b, v⟩ := c
    have hwrite : externallyWritable s.params b = true → (s.mem.write b v).read a = s.mem.read a := by
      intro hb
      exact Memory.read_write_other _ _ _ _ (by rintro rfl; simp [ha] at hb)
    simp only [externalStores] at h
    split at h
    · next hb =>
      split at h
      · split at h
        · exact (ih h ha).trans (hwrite hb)
        · simp at h
      · exact (ih h ha).trans (hwrite hb)
    · exact ih h ha

/-- With the checker off nothing refuses the external agents. -/
theorem externalStores_off (h : s.params.cacheCheck = false) : ∃ t, externalStores l s = .ok t := by
  induction l generalizing s with
  | nil => exact ⟨s, rfl⟩
  | cons c l ih =>
    obtain ⟨b, v⟩ := c
    simp only [externalStores, h, Bool.false_eq_true, if_false]
    split
    · exact ih h
    · exact ih h

theorem externalCheck_eq_error {a : Nat} {c : CacheSets} {r : Refusal} (h : externalCheck a c = .error r) : r = .cacheState := by
  by_cases hd : dataLine (BitVec.ofNat 32 a) ∈ c.dcDirty
  · rw [externalCheck_refused hd] at h
    exact (Except.error.inj h).symm
  · rw [externalCheck_ok hd] at h
    cases h

/-- Only the checker refuses the external agents. -/
theorem externalStores_eq_error {r : Refusal} (h : externalStores l s = .error r) : r = .cacheState := by
  induction l generalizing s with
  | nil => simp [externalStores] at h
  | cons c l ih =>
    obtain ⟨b, v⟩ := c
    simp only [externalStores] at h
    split at h
    · split at h
      · split at h
        · exact ih h
        · next hr => cases h; exact externalCheck_eq_error hr
      · exact ih h
    · exact ih h

/-- The external agents leave the VI bit of the MI. -/
theorem externalIntr_vi (old given : BitVec 6) : (externalIntr old given).getLsbD 3 = old.getLsbD 3 := by
  simp [externalIntr, externalBits]

/-- The state in which the external agents make their writes: their MI bits are given. -/
def externalStart (s : State) : State :=
  { s with mi := { s.mi with intr := externalIntr s.mi.intr (Config.extIntr s.draws) }, draws := s.draws + 1 }

theorem externalAgents_active (h : s.extActive = true) :
    externalAgents s = orMark s (externalStores (Config.extWrites s.draws) (externalStart s)) := if_pos h

end

/-- Settles O56: the external agents' writes are bounded, and only the checker refuses them. -/
theorem externalAgentsBounded : Obligations.ExternalAgentsBounded := by
  refine ⟨fun s t h => ?_, fun s hs => ?_, fun s => ?_⟩
  · rcases Bool.eq_false_or_eq_true s.extActive with he | he
    · rw [externalAgents_active he] at h
      have hst := orMark_eq_ok h
      have hread := fun a => externalStores_read (a := a) hst
      obtain ⟨m, c, rfl⟩ := externalStores_eq_ok hst
      exact ⟨fun hn => absurd hn (by simp [he]), externalIntr_vi _ _, rfl,
        fun a _ h1 h2 => hread a (externallyWritable_eq_false h1 h2)⟩
    · obtain rfl : s = t := Except.ok.inj ((externalAgents_inactive he).symm.trans h)
      exact ⟨fun _ => rfl, rfl, rfl, fun _ _ _ _ => rfl⟩
  · cases he : s.extActive with
    | false => exact ⟨s, externalAgents_inactive he⟩
    | true =>
      have hoff : s.params.cacheCheck = false := hs.resolve_left (by simp [he])
      obtain ⟨t, ht⟩ := externalStores_off (l := Config.extWrites s.draws) (s := externalStart s) hoff
      exact ⟨t, by rw [externalAgents_active he, ht]; rfl⟩
  · cases he : s.extActive with
    | false => exact .inl ⟨s, externalAgents_inactive he⟩
    | true =>
      rw [externalAgents_active he]
      cases hst : externalStores (Config.extWrites s.draws) (externalStart s) with
      | ok t => exact .inl ⟨t, rfl⟩
      | error r => obtain rfl := externalStores_eq_error hst; exact .inr rfl

end Sys2Proof.Machine
end

section
/-! PROOFS. The fetch (20_memory.md R79, R82, 60_exceptions.md R285, R288, R289): the registers an exception entry leaves, what a fetch raises
and refuses, and the word each region answers. -/

namespace Sys2Proof.Machine

/-! ## The registers after an exception (60_exceptions.md R286 to R290) -/

section
variable (e : Exc) (s : State)

theorem recordAddr_keeps (c : Cp0) :
    (recordAddr e c).cause = c.cause ∧ (recordAddr e c).epc = c.epc ∧ (recordAddr e c).status = c.status := by
  unfold recordAddr
  cases e.badVAddr <;> cases e.tlbAddr <;> exact ⟨rfl, rfl, rfl⟩

/-- EPC and Cause.BD as an entry leaves them: the restart address, unless EXL was set. -/
def entryCp0 : Cp0 := if statusEXL s then s.cp0 else saveRestart s

theorem takeException_cause : (takeException e s).cp0.cause =
    putField 28 (causeCE e s).1 (putField 2 e.name.code (entryCp0 s).cause) := (recordAddr_keeps e _).1

theorem takeException_epc : (takeException e s).cp0.epc = (entryCp0 s).epc := (recordAddr_keeps e _).2.1

theorem takeException_vector : (takeException e s).pc =
    exceptionVector e.isRefill (statusEXL s) (statusBEV s) (addr64 s (currentMode s)) := rfl

theorem takeException_exl : statusEXL (takeException e s) = true := by
  show (putField 1 (1 : BitVec 1) _ : Word).getLsbD 1 = true
  rw [getLsbD_putField _ _ _ (by decide)]
  rfl

theorem takeException_code : (takeException e s).cp0.cause.extractLsb' 2 5 = e.name.code := by
  rw [takeException_cause, extractLsb'_putField_of_disjoint _ _ _ _ _ (.inr (by decide)) (by decide),
    extractLsb'_putField _ _ _ (by decide)]

theorem takeException_bd : (takeException e s).cp0.cause.getLsbD 31 = (entryCp0 s).cause.getLsbD 31 := by
  rw [takeException_cause, getLsbD_putField _ _ _ (by decide), if_neg (by decide), getLsbD_putField _ _ _ (by decide),
    if_neg (by decide)]

variable {e s}

theorem takeException_badVAddr {va : DWord} (h : e.badVAddr = some va) : (takeException e s).cp0.badVAddr = va := by
  show (recordAddr e _).badVAddr = va
  unfold recordAddr
  rw [h]
  cases e.tlbAddr <;> rfl

theorem recordAddr_entryHi {va : DWord} (h : e.tlbAddr = some va) (c : Cp0) : (recordAddr e c).entryHi =
    putField 62 (va.extractLsb' 62 2) (putField 13 (va.extractLsb' 13 27) c.entryHi) := by
  unfold recordAddr
  rw [h]
  cases e.badVAddr <;> rfl

/-- A TLB exception writes R and VPN2 of EntryHi. -/
theorem takeException_entryHi {va : DWord} (h : e.tlbAddr = some va) :
    (takeException e s).cp0.entryHi.extractLsb' 62 2 = va.extractLsb' 62 2 ∧
    (takeException e s).cp0.entryHi.extractLsb' 13 27 = va.extractLsb' 13 27 := by
  obtain ⟨c, hc⟩ : ∃ c, (takeException e s).cp0.entryHi = (recordAddr e c).entryHi := ⟨_, rfl⟩
  rw [hc, recordAddr_entryHi h]
  exact ⟨extractLsb'_putField _ _ _ (by decide),
    (extractLsb'_putField_of_disjoint _ _ _ _ _ (.inr (by decide)) (by decide)).trans (extractLsb'_putField _ _ _ (by decide))⟩

/-- With EXL = 0 an entry saves the address at which to restart: the branch's, in a delay slot. -/
theorem entryCp0_restart (h : statusEXL s = false) : (entryCp0 s).epc = (if s.inDelaySlot then s.pc - 4 else s.pc) ∧
    (entryCp0 s).cause.getLsbD 31 = s.inDelaySlot := by
  unfold entryCp0 saveRestart
  rw [h]
  cases s.inDelaySlot <;> refine ⟨rfl, ?_⟩ <;> exact (getLsbD_putField _ _ _ (by decide)).trans rfl

theorem entryCp0_exl (h : statusEXL s = true) : entryCp0 s = s.cp0 := if_pos h

end

/-! ## Translation in the state a step begins with -/

/-- A stop with its state replaced. -/
def Stop.inState (u : State) : Stop → Stop
  | .raise e _ => .raise e u
  | .refuse r => .refuse r

section
variable (va : DWord) (kind : AccessKind) (s : State)

theorem translateEntry_inState (en : TlbEntry) (u : State) :
    translateEntry en va kind u = (translateEntry en va kind s).mapError (Stop.inState u) := by
  unfold translateEntry
  simp only
  split_ifs <;> rfl

theorem tlbTranslate_beginStep :
    tlbTranslate va kind (beginStep s) = (tlbTranslate va kind s).mapError (Stop.inState (beginStep s)) := by
  unfold tlbTranslate
  rw [show tlbHits (beginStep s) va = tlbHits s va from rfl]
  split
  · rfl
  · exact translateEntry_inState va kind s _ _
  · rfl

/-- The start of a step changes no translation. -/
theorem translate_beginStep :
    translate va kind (beginStep s) = (translate va kind s).mapError (Stop.inState (beginStep s)) := by
  have hmode : currentMode (beginStep s) = currentMode s := rfl
  have hre : statusRE (beginStep s) = statusRE s := rfl
  have herl : statusERL (beginStep s) = statusERL s := rfl
  have hk0 : kseg0Cached (beginStep s) = kseg0Cached s := rfl
  unfold translate
  simp only [hmode, hre, herl, hk0, tlbTranslate_beginStep]
  split_ifs
  all_goals first
    | rfl
    | (cases segmentOf (low32 va) <;> rfl)

end

/-! ## What a fetch raises (R79, R285) -/

section
variable {s u : State} {va : DWord} {e : Exc}

/-- The exceptions of the translation of a fetch. -/
def fetchExceptions (va : DWord) : List Exc := [.addressError false va, .tlbRefill false va, .tlbInvalid false va]

theorem translateEntry_fetch_raise {en : TlbEntry} (h : translateEntry en va .fetch s = .error (.raise e u)) :
    e = .tlbInvalid false va := by
  unfold translateEntry at h
  simp only [reduceCtorEq, decide_false, Bool.false_and, Bool.false_eq_true, if_false] at h
  split_ifs at h <;> cases h
  rfl

theorem tlbTranslate_fetch_raise (h : tlbTranslate va .fetch s = .error (.raise e u)) : e ∈ fetchExceptions va := by
  unfold tlbTranslate at h
  split at h
  · cases h; simp [fetchExceptions]
  · rw [translateEntry_fetch_raise h]; simp [fetchExceptions]
  · simp at h

theorem translate_fetch_raise (h : translate va .fetch s = .error (.raise e u)) : e ∈ fetchExceptions va := by
  unfold translate at h
  simp only at h
  repeat' split at h
  all_goals first
    | exact tlbTranslate_fetch_raise h
    | (cases h; simp [fetchExceptions])
    | simp at h

theorem fetch_misaligned (h : s.pc.extractLsb' 0 2 ≠ 0) : fetch s = .error (.raise (.addressError false s.pc) s) := if_pos h

theorem fetch_translate_error (h : s.pc.extractLsb' 0 2 = 0) {st : Stop} (ht : translate s.pc .fetch s = .error st) :
    fetch s = .error st := by
  simp only [fetch, h, ht, ne_eq, not_true_eq_false, if_false]

theorem fetch_translated (h : s.pc.extractLsb' 0 2 = 0) {pa : Word} {cached : Bool} (ht : translate s.pc .fetch s = .ok (pa, cached)) :
    fetch s = orRefuse (fetchAt pa cached s) := by
  simp only [fetch, h, ht, ne_eq, not_true_eq_false, if_false]

/-- A step whose fetch raises takes the exception. -/
theorem instructionStep_raise (h : fetch (beginStep s) = .error (.raise e (beginStep s))) :
    instructionStep s = .next (takeException e (beginStep s)) := by
  simp only [instructionStep, h]
  rfl

theorem instructionStep_misaligned (h : s.pc.extractLsb' 0 2 ≠ 0) :
    instructionStep s = .next (takeException (.addressError false s.pc) (beginStep s)) :=
  instructionStep_raise (fetch_misaligned (s := beginStep s) h)

theorem instructionStep_translate_raise (h : s.pc.extractLsb' 0 2 = 0) (ht : translate s.pc .fetch s = .error (.raise e u)) :
    instructionStep s = .next (takeException e (beginStep s)) := by
  refine instructionStep_raise (fetch_translate_error (s := beginStep s) h ?_)
  show translate s.pc .fetch (beginStep s) = _
  rw [translate_beginStep, ht]
  rfl

end

/-! ## What a fetch answers and refuses (R79, R87, R101) -/

section
variable {s u : State} {pa : Word} {cached : Bool}

theorem fetchAt_device (h : fetchable (regionKind s.params pa) = false) : fetchAt pa cached s = .error .fetchFromDevice := by
  simp [fetchAt, h]

theorem fetchAt_refused (h : fetchable (regionKind s.params pa) = true) {r : Refusal} (hc : cacheCheck pa .fetch cached s = .error r) :
    fetchAt pa cached s = .error r := by simp [fetchAt, h, hc]

theorem fetchAt_ok (h : fetchable (regionKind s.params pa) = true) (hc : cacheCheck pa .fetch cached s = .ok u) {v : DWord}
    (hr : physRead u pa .word = .ok (v, u)) : fetchAt pa cached s = .ok (low32 v, u) := by simp [fetchAt, h, hc, hr]

/-- The regions that serve a fetch answer a word read, and take no draw for it. -/
theorem physRead_fetchable (h : fetchable (regionKind s.params pa) = true) : ∃ v, physRead s pa .word = .ok (v, s) := by
  unfold physRead
  split
  case h_1 | h_2 | h_3 | h_4 | h_8 => exact ⟨_, rfl⟩
  all_goals next hk => simp [hk, fetchable] at h

theorem low32_trunc_word (v : DWord) : low32 (Width.word.trunc v) = low32 v := by
  apply BitVec.eq_of_getLsbD_eq
  intro j hj
  simp only [low32, BitVec.getLsbD_setWidth, getLsbD_trunc .word v (show j < 8 * Width.word.bytes from hj)]

theorem cacheCheck_beginStep {kind : AccessKind} :
    cacheCheck pa kind cached (beginStep s) = (cacheCheck pa kind cached s).map beginStep := by
  unfold cacheCheck
  rw [show (beginStep s).params = s.params from rfl, show (beginStep s).cache = s.cache from rfl]
  simp only
  split
  · split <;> rfl
  · rfl

/-- A refused fetch is refused in the step. -/
theorem fetch_beginStep_refused {r : Refusal} (h : fetch s = .error (.refuse r)) : fetch (beginStep s) = .error (.refuse r) := by
  by_cases hal : s.pc.extractLsb' 0 2 = 0
  swap
  · rw [fetch_misaligned hal] at h
    cases h
  cases ht : translate s.pc .fetch s with
  | error st =>
    obtain rfl : st = .refuse r := Except.error.inj ((fetch_translate_error hal ht).symm.trans h)
    refine fetch_translate_error (s := beginStep s) hal ?_
    show translate s.pc .fetch (beginStep s) = _
    rw [translate_beginStep, ht]
    rfl
  | ok p =>
    obtain ⟨pa, cached⟩ := p
    have htb : translate s.pc .fetch (beginStep s) = .ok (pa, cached) := by rw [translate_beginStep, ht]; rfl
    rw [fetch_translated hal ht] at h
    rw [fetch_translated (s := beginStep s) hal htb]
    cases hf : fetchable (regionKind s.params pa) with
    | false =>
      rw [fetchAt_device hf] at h
      rw [fetchAt_device (s := beginStep s) hf]
      exact h
    | true =>
      cases hc : cacheCheck pa .fetch cached s with
      | error r' =>
        rw [fetchAt_refused hf hc] at h
        rw [fetchAt_refused (s := beginStep s) hf (by rw [cacheCheck_beginStep, hc]; rfl)]
        exact h
      | ok u =>
        obtain ⟨c, rfl⟩ := cacheCheck_eq_ok hc
        obtain ⟨v, hv⟩ := physRead_fetchable (s := { s with cache := c }) hf
        rw [fetchAt_ok hf hc hv] at h
        cases h

theorem instructionStep_refused {r : Refusal} (h : fetch s = .error (.refuse r)) : instructionStep s = .refused r := by
  simp only [instructionStep, fetch_beginStep_refused h]
  rfl

end

/-- Settles O8: by the alignment of the pc, its translation, and the region of its physical address. -/
theorem fetchRules : Obligations.FetchRules := by
  refine fun s => ⟨fetch_misaligned, fun hal hexl hds => ?_, fun hal => ⟨fun e => fetch_translate_error hal, fun e u ht => ?_,
    fun pa cached ht => ⟨fun hk => ?_, fun hoff => cacheCheck_off hoff, fun hk => ⟨fun r hr => ?_, fun u hu => ?_⟩⟩⟩,
    fun r => instructionStep_refused⟩
  · obtain ⟨hepc, hbd⟩ := entryCp0_restart (s := beginStep s) hexl
    refine ⟨_, instructionStep_misaligned hal, rfl, takeException_badVAddr rfl, ?_, takeException_code _ _, ?_, takeException_exl _ _,
      ?_, rfl, rfl, takeException_regs _ _, takeException_mem _ _⟩
    · rw [takeException_epc, hepc, show (beginStep s).inDelaySlot = false from hds]
      rfl
    · rw [takeException_bd, hbd]
      exact hds
    · rw [takeException_vector, show statusBEV (beginStep s) = statusBEV s from rfl]
      cases statusBEV s <;> rfl
  · obtain ⟨rfl, hbad⟩ := translate_raise ht
    have he := translate_fetch_raise ht
    refine ⟨rfl, he, _, instructionStep_translate_raise hal ht, takeException_badVAddr hbad, ?_, ?_, ?_, ?_, ?_, rfl, rfl,
      takeException_exl _ _, takeException_regs _ _, takeException_mem _ _, takeException_tlb _ _⟩
    · rintro va rfl
      exact ⟨rfl, takeException_code _ _⟩
    · rintro va (rfl | rfl) <;> obtain rfl : va = u.pc := Option.some.inj hbad <;>
        exact ⟨rfl, takeException_code _ _, takeException_entryHi rfl⟩
    · intro hexl
      obtain ⟨hepc, hbd⟩ := entryCp0_restart (s := beginStep u) hexl
      exact ⟨(takeException_epc _ _).trans hepc, (takeException_bd _ _).trans hbd⟩
    · intro hexl
      have hsame : entryCp0 (beginStep u) = u.cp0 := entryCp0_exl (s := beginStep u) hexl
      exact ⟨by rw [takeException_epc, hsame], by rw [takeException_bd, hsame]⟩
    · rw [takeException_vector, show statusBEV (beginStep u) = statusBEV u from rfl,
        show statusEXL (beginStep u) = statusEXL u from rfl,
        show addr64 (beginStep u) (currentMode (beginStep u)) = addr64 u (currentMode u) from rfl]
      simp only [fetchExceptions, List.mem_cons, List.not_mem_nil, or_false] at he
      rcases he with rfl | rfl | rfl <;> simp [exceptionVector, Exc.isRefill]
  · have hf : fetchable (regionKind s.params pa) = false := by
      simp only [List.mem_cons, List.not_mem_nil, or_false] at hk
      rcases hk with hk | hk | hk | hk <;> rw [hk] <;> rfl
    rw [fetch_translated hal ht, fetchAt_device hf]
    rfl
  all_goals
    have hf : fetchable (regionKind s.params pa) = true := by
      simp only [List.mem_cons, List.not_mem_nil, or_false] at hk
      rcases hk with hk | hk | hk | hk | hk <;> rw [hk] <;> rfl
  · rw [fetch_translated hal ht, fetchAt_refused hf hr]
    rfl
  · obtain ⟨c, rfl⟩ := cacheCheck_eq_ok hu
    have hfetch : ∀ {v}, physRead { s with cache := c } pa .word = .ok (v, { s with cache := c }) →
        fetch s = .ok (low32 v, { s with cache := c }) := fun hv => by
      rw [fetch_translated hal ht, fetchAt_ok hf hu hv]
      rfl
    simp only [List.mem_cons, List.not_mem_nil, or_false] at hk
    refine ⟨rfl, ?_⟩
    rcases hk with hk | hk | hk | hk | hk
    · exact ⟨_, hfetch (by simp only [physRead, hk]; rfl), fun _ => rfl, by simp [hk], by simp [hk], by simp [hk]⟩
    · exact ⟨_, hfetch (by simp only [physRead, hk, if_true]), fun _ => rfl, by simp [hk], by simp [hk], by simp [hk]⟩
    · refine ⟨_, hfetch (physRead_cartRom hk), by simp [hk], fun _ => ?_, by simp [hk], by simp [hk]⟩
      split
      · rfl
      · exact low32_trunc_word _
    · refine ⟨_, hfetch (physRead_pifRom hk), by simp [hk], by simp [hk], fun _ => ?_, by simp [hk]⟩
      split
      · rfl
      · exact low32_trunc_word _
    · exact ⟨_, hfetch (v := Width.word.trunc (s.params.openBusAt pa 4)) (by simp only [physRead, hk]; rfl), by simp [hk], by simp [hk],
        by simp [hk], fun _ => low32_trunc_word _⟩

end Sys2Proof.Machine
end


section
/-! PROOFS. Every instruction's word decodes to it (30_encoding.md R104, R108): the maps of the decoder on the words of each format. -/

namespace Sys2Proof.Decode

/-! ## The maps of the decoder (R109 to R112) -/

section
variable {w : Word}

theorem decode_special (h : opF w = 0) : decode w = decodeSpecial w := by rw [decode, h]; rfl

theorem decode_regimm (h : opF w = 1) : decode w = decodeRegimm w := by rw [decode, h]; rfl

theorem decode_cop0 (h : opF w = 16) : decode w = decodeCop0 w := by rw [decode, h]; rfl

/-- co is the top bit of rs. -/
theorem coF_eq_one_iff : coF w = 1 ↔ 16 ≤ (rsF w).toNat := by
  rw [← BitVec.toNat_inj, coF, rsF, BitVec.extractLsb'_toNat, BitVec.extractLsb'_toNat, Nat.shiftRight_eq_div_pow,
    Nat.shiftRight_eq_div_pow]
  simp only [BitVec.ofNat_eq_ofNat, BitVec.toNat_ofNat]
  omega

end

/-! ## The words of the instructions, by format -/

/-- The word of an instruction decodes to it: in each format the decoder reads back the opcode fields, which select the row, and the
operands. -/
theorem decode_encode (i : Instr) : decode (encode i) = .instr i := by
  cases i with
  | sync | tlbr | tlbwi | tlbwr | tlbp | eret => rfl
  | sll | srl | sra | sllv | srlv | srav | jr | jalr | mfhi | mthi | mflo | mtlo | dsllv | dsrlv | dsrav | mult | multu | div | divu
  | dmult | dmultu | ddiv | ddivu | add | addu | sub | subu | and | or | xor | nor | slt | sltu | dadd | daddu | dsub | dsubu
  | dsll | dsrl | dsra | dsll32 | dsrl32 | dsra32 =>
    change decode (formatR 0 _ _ _ _ _) = _
    rw [decode_special (opF_formatR ..), decodeSpecial, functF_formatR, rsF_formatR, rtF_formatR, rdF_formatR, saF_formatR]
    rfl
  | syscall | brk =>
    change decode (formatCode _ _) = _
    rw [decode_special (opF_formatCode ..), decodeSpecial, functF_formatCode, codeF_formatCode]
    rfl
  | tge | tgeu | tlt | tltu | teq | tne =>
    change decode (formatTrap _ _ _ _) = _
    rw [decode_special (opF_formatTrap ..), decodeSpecial, functF_formatTrap, rsF_formatTrap, rtF_formatTrap, tcodeF_formatTrap]
    rfl
  | bltz | bgez | bltzl | bgezl | tgei | tgeiu | tlti | tltiu | teqi | tnei | bltzal | bgezal | bltzall | bgezall =>
    change decode (formatI 1 _ _ _) = _
    rw [decode_regimm (opF_formatI ..), decodeRegimm, rsF_formatI, rtF_formatI, immF_formatI]
    rfl
  | mfc0 | dmfc0 | mtc0 | dmtc0 =>
    change decode (formatMov _ _ _) = _
    rw [decode_cop0 (opF_formatMov ..), decodeCop0, if_neg (by rw [coF_eq_one_iff, rsF_formatMov]; decide), rsF_formatMov,
      rtF_formatMov, rdF_formatMov, low11F_formatMov]
    rfl
  | j | jal | cop1 | cop2 =>
    change decode (formatJ _ _) = _
    rw [decode, opF_formatJ, targetF_formatJ]
    rfl
  | _ =>
    change decode (formatI _ _ _ _) = _
    rw [decode, opF_formatI, rsF_formatI, rtF_formatI, immF_formatI]
    rfl

/-- Settles O1, format by format. -/
theorem decodeOfEncode : Obligations.DecodeOfEncode := decode_encode

/-- Settles O3: the words of the table that are instructions are the words of those instructions; the others are evaluated. -/
theorem knownWordsDecode : Obligations.KnownWordsDecode :=
  ⟨decode_encode (.sll 0 0 0), decode_encode (.addiu 8 0 5), decode_encode (.addi 9 9 0xFFFF), decode_encode (.beq 8 9 3),
    decode_encode (.beq 0 0 0xFFFF), decode_encode (.j 0x100), decode_encode (.jr 31), decode_encode (.add 10 8 9),
    decode_encode (.lw 9 4 8), decode_encode (.mtc0 0 12), decode_encode .eret, by decide, by decide, by decide, by decide, by decide,
    by decide⟩

end Sys2Proof.Decode
end

section
/-! PROOFS. What the decoder answers for every word (30_encoding.md R108 to R116): the fields of a word laid out again, the cells of the
opcode maps, and one case split over each map. -/

namespace Sys2Proof.Decode

/-! ## A word is its fields laid out (R103, R104) -/

section
variable {w : Word} {op f : BitVec 6} {rs rt rd sub : RegIdx} {sa : BitVec 5} {imm : BitVec 16}

theorem formatR_fields (w : Word) : formatR (opF w) (rsF w) (rtF w) (rdF w) (saF w) (functF w) = w := by
  apply BitVec.eq_of_toNat_eq
  simp only [formatR_toNat, opF, rsF, rtF, rdF, saF, functF, BitVec.extractLsb'_toNat, Nat.shiftRight_eq_div_pow]
  omega

theorem formatI_fields (w : Word) : formatI (opF w) (rsF w) (rtF w) (immF w) = w := by
  apply BitVec.eq_of_toNat_eq
  simp only [formatI_toNat, opF, rsF, rtF, immF, BitVec.extractLsb'_toNat, Nat.shiftRight_eq_div_pow]
  omega

theorem formatJ_fields (w : Word) : formatJ (opF w) (targetF w) = w := by
  apply BitVec.eq_of_toNat_eq
  simp only [formatJ_toNat, opF, targetF, BitVec.extractLsb'_toNat, Nat.shiftRight_eq_div_pow]
  omega

theorem formatCode_fields (hop : opF w = 0) : formatCode (codeF w) (functF w) = w := by
  apply BitVec.eq_of_toNat_eq
  simp only [← BitVec.toNat_inj, formatCode_toNat, opF, codeF, functF, BitVec.extractLsb'_toNat, Nat.shiftRight_eq_div_pow,
    BitVec.ofNat_eq_ofNat, BitVec.toNat_ofNat] at hop ⊢
  omega

theorem formatTrap_fields (hop : opF w = 0) : formatTrap (rsF w) (rtF w) (tcodeF w) (functF w) = w := by
  apply BitVec.eq_of_toNat_eq
  simp only [← BitVec.toNat_inj, formatTrap_toNat, opF, rsF, rtF, tcodeF, functF, BitVec.extractLsb'_toNat,
    Nat.shiftRight_eq_div_pow, BitVec.ofNat_eq_ofNat, BitVec.toNat_ofNat] at hop ⊢
  omega

theorem formatMov_fields (hop : opF w = 16) (hz : low11F w = 0) : formatMov (rsF w) (rtF w) (rdF w) = w := by
  apply BitVec.eq_of_toNat_eq
  simp only [← BitVec.toNat_inj, formatMov_toNat, opF, rsF, rtF, rdF, low11F, BitVec.extractLsb'_toNat, Nat.shiftRight_eq_div_pow,
    BitVec.ofNat_eq_ofNat, BitVec.toNat_ofNat] at hop hz ⊢
  omega

theorem formatCo_fields (hop : opF w = 16) (hco : coF w = 1) (hz : coZeroF w = 0) : formatCo (functF w) = w := by
  apply BitVec.eq_of_toNat_eq
  simp only [← BitVec.toNat_inj, formatCo_toNat, opF, coF, coZeroF, functF, BitVec.extractLsb'_toNat, Nat.shiftRight_eq_div_pow,
    BitVec.ofNat_eq_ofNat, BitVec.toNat_ofNat] at hop hco hz ⊢
  omega

/-! The same with the field that selects the row given by its number, as the maps compare it. -/

theorem formatR_eq (hop : opF w = op) (hf : (functF w).toNat = f.toNat)
    (h : rsF w = rs ∧ rtF w = rt ∧ rdF w = rd ∧ saF w = sa) : formatR op rs rt rd sa f = w := by
  obtain ⟨rfl, rfl, rfl, rfl⟩ := h
  rw [← hop, ← BitVec.eq_of_toNat_eq hf, formatR_fields]

theorem formatI_eq (hop : (opF w).toNat = op.toNat) (h : rsF w = rs ∧ rtF w = rt ∧ immF w = imm) : formatI op rs rt imm = w := by
  obtain ⟨rfl, rfl, rfl⟩ := h
  rw [← BitVec.eq_of_toNat_eq hop, formatI_fields]

theorem formatJ_eq (hop : (opF w).toNat = op.toNat) : formatJ op (targetF w) = w := by
  rw [← BitVec.eq_of_toNat_eq hop, formatJ_fields]

theorem formatCode_eq (hop : opF w = 0) (hf : (functF w).toNat = f.toNat) : formatCode (codeF w) f = w := by
  rw [← BitVec.eq_of_toNat_eq hf, formatCode_fields hop]

theorem formatTrap_eq (hop : opF w = 0) (hf : (functF w).toNat = f.toNat) : formatTrap (rsF w) (rtF w) (tcodeF w) f = w := by
  rw [← BitVec.eq_of_toNat_eq hf, formatTrap_fields hop]

theorem formatMov_eq (hop : opF w = 16) (hs : (rsF w).toNat = sub.toNat) (hz : low11F w = 0) :
    formatMov sub (rtF w) (rdF w) = w := by
  rw [← BitVec.eq_of_toNat_eq hs, formatMov_fields hop hz]

theorem formatCo_eq (hop : opF w = 16) (hco : coF w = 1) (hf : (functF w).toNat = f.toNat) (hz : coZeroF w = 0) :
    formatCo f = w := by
  rw [← BitVec.eq_of_toNat_eq hf, formatCo_fields hop hco hz]

end

/-! ## Fields in lists of numbers -/

section
variable {k : Nat} {x : BitVec k} {l : List (BitVec k)}

theorem mem_map_toNat : x.toNat ∈ l.map BitVec.toNat ↔ x ∈ l :=
  List.mem_map_of_injective fun _ _ => BitVec.eq_of_toNat_eq

theorem mem_ofNat_cons {n : Nat} : x ∈ BitVec.ofNat k n :: l ↔ x.toNat = n % 2 ^ k ∨ x ∈ l := by
  rw [List.mem_cons, ← BitVec.toNat_inj, BitVec.toNat_ofNat]

end

/-! ## The cells of the opcode maps -/

/-- The primary opcodes of RI cells (R109). -/
def riOps : List (BitVec 6) := [19, 28, 29, 30, 31, 51, 59]

/-- The functs of the RI cells of the SPECIAL map (R110). -/
def riFuncts : List (BitVec 6) := [1, 5, 10, 11, 14, 21, 40, 41, 53, 55, 57, 61]

/-- The rt values of the REGIMM map that are instructions (R111). -/
def regimmRows : List (BitVec 5) := [0, 1, 2, 3, 8, 9, 10, 11, 12, 14, 16, 17, 18, 19]

/-- The functs of the CP0 functions (R112). -/
def coRows : List (BitVec 6) := [1, 2, 6, 8, 24]

/-- The rs values of the RI cells among the CP0 moves (R112). -/
def riSubs : List (BitVec 5) := [2, 3, 6, 7, 9, 10, 11, 12, 13, 14, 15]

/-- A word in an RI cell (R115). -/
def RiCell (w : Word) : Prop :=
  opF w ∈ riOps ∨ (opF w = 0 ∧ functF w ∈ riFuncts) ∨ (opF w = 1 ∧ rtF w ∉ regimmRows) ∨
  (opF w = 16 ∧ coF w = 1 ∧ functF w ∉ coRows) ∨ (opF w = 16 ∧ rsF w ∈ riSubs)

/-- A word of the BC0 group (R116). -/
def Bc0 (w : Word) : Prop := opF w = 16 ∧ rsF w = 8

section
variable {w : Word}

theorem riCell_special (h : opF w = 0) : RiCell w ↔ functF w ∈ riFuncts := by simp [RiCell, h, riOps]

theorem riCell_regimm (h : opF w = 1) : RiCell w ↔ rtF w ∉ regimmRows := by simp [RiCell, h, riOps]

theorem riCell_co (h : opF w = 16) (hco : coF w = 1) : RiCell w ↔ functF w ∉ coRows := by
  have hrs : rsF w ∉ riSubs := by
    have hge := coF_eq_one_iff.1 hco
    simp only [riSubs, mem_ofNat_cons, List.not_mem_nil, or_false, BitVec.ofNat_eq_ofNat]
    omega
  simp [RiCell, h, riOps, hco, hrs]

theorem riCell_move (h : opF w = 16) (hco : ¬ coF w = 1) : RiCell w ↔ rsF w ∈ riSubs := by
  have hco' : ¬ coF w = 1#1 := hco
  simp [RiCell, h, riOps, hco']

theorem riCell_primary (h0 : opF w ≠ 0) (h1 : opF w ≠ 1) (h16 : opF w ≠ 16) : RiCell w ↔ opF w ∈ riOps := by
  simp only [RiCell, h0, h1, h16, false_and, or_false]

theorem not_bc0_of_opF (h : opF w ≠ 16) : ¬ Bc0 w := fun hb => h hb.1

theorem not_bc0_of_co (hco : coF w = 1) : ¬ Bc0 w := fun hb => by
  rw [coF_eq_one_iff, hb.2] at hco
  exact absurd hco (by decide)

end

/-! ## One case split over each map -/

/-- What a word may decode to, by its cell: to an instruction only as that instruction's word, to a reserved word only in an RI cell. -/
inductive Answer (w : Word) : Decoded → Prop
  | instr {i : Instr} (hri : ¬ RiCell w) (hbc : ¬ Bc0 w) (hw : encode i = w) : Answer w (.instr i)
  | nonzeroReserved {i : Instr} (hri : ¬ RiCell w) (hbc : ¬ Bc0 w) : Answer w (.nonzeroReserved i)
  | reserved {cop0 : Bool} (hri : RiCell w) (hbc : ¬ Bc0 w) (hc : cop0 = decide (opF w = 16)) : Answer w (.reserved cop0)
  | unmodelled (hri : ¬ RiCell w) (hbc : Bc0 w) : Answer w .unmodelled

section
variable {w : Word}

theorem Answer.checked {mbz : Prop} [Decidable mbz] {i : Instr} (hri : ¬ RiCell w) (hbc : ¬ Bc0 w) (hw : mbz → encode i = w) :
    Answer w (checked mbz i) := by
  by_cases h : mbz
  · rw [Decode.checked, if_pos h]; exact .instr hri hbc (hw h)
  · rw [Decode.checked, if_neg h]; exact .nonzeroReserved hri hbc

theorem answer_special (h : opF w = 0) : Answer w (decodeSpecial w) := by
  have hbc : ¬ Bc0 w := not_bc0_of_opF (by rw [h]; decide)
  have hri : ∀ {n}, (functF w).toNat = n → n ∉ riFuncts.map BitVec.toNat → ¬ RiCell w := fun hf hn => by
    rwa [riCell_special h, ← mem_map_toNat, hf]
  unfold decodeSpecial
  split
  case h_53 =>
    refine .reserved ?_ hbc (by rw [h]; rfl)
    rw [riCell_special h]
    simp only [riFuncts, mem_ofNat_cons, List.not_mem_nil, or_false, imp_false, BitVec.ofNat_eq_ofNat] at *
    omega
  case h_9 hf | h_10 hf => exact .instr (hri hf (by decide)) hbc (formatCode_eq h hf)
  case h_11 hf =>
    have hsync : encode .sync = formatR 0 0 0 0 0 15 := rfl
    exact .checked (hri hf (by decide)) hbc fun hz => hsync.trans (formatR_eq h hf hz)
  case h_41 hf | h_42 hf | h_43 hf | h_44 hf | h_45 hf | h_46 hf => exact .instr (hri hf (by decide)) hbc (formatTrap_eq h hf)
  all_goals
    next hf => exact .checked (hri hf (by decide)) hbc fun hz => formatR_eq h hf (by simp [hz])

theorem answer_regimm (h : opF w = 1) : Answer w (decodeRegimm w) := by
  have hbc : ¬ Bc0 w := not_bc0_of_opF (by rw [h]; decide)
  unfold decodeRegimm
  split
  case h_15 =>
    refine .reserved ?_ hbc (by rw [h]; rfl)
    rw [riCell_regimm h]
    simp only [regimmRows, mem_ofNat_cons, List.not_mem_nil, or_false, imp_false, BitVec.ofNat_eq_ofNat] at *
    omega
  all_goals
    next hrt =>
      refine .instr ?_ hbc (formatI_eq (congrArg BitVec.toNat h) ⟨rfl, BitVec.eq_of_toNat_eq hrt, rfl⟩)
      rw [riCell_regimm h, ← mem_map_toNat, hrt]
      decide

theorem answer_co (h : opF w = 16) (hco : coF w = 1) : Answer w (decodeCop0 w) := by
  have hbc := not_bc0_of_co hco
  rw [decodeCop0, if_pos hco]
  split
  case h_6 =>
    refine .reserved ?_ hbc (by rw [h]; rfl)
    rw [riCell_co h hco]
    simp only [coRows, mem_ofNat_cons, List.not_mem_nil, or_false, imp_false, BitVec.ofNat_eq_ofNat] at *
    omega
  all_goals
    next hf =>
      refine .checked ?_ hbc fun hz => formatCo_eq h hco hf hz
      rw [riCell_co h hco, ← mem_map_toNat, hf]
      decide

theorem answer_move (h : opF w = 16) (hco : ¬ coF w = 1) : Answer w (decodeCop0 w) := by
  have hri : ∀ {n}, (rsF w).toNat = n → n ∉ riSubs.map BitVec.toNat → ¬ RiCell w := fun hs hn => by
    rwa [riCell_move h hco, ← mem_map_toNat, hs]
  have hbc : ∀ {n}, (rsF w).toNat = n → n ≠ 8 → ¬ Bc0 w := fun hs hn hb => hn (by rw [← hs, hb.2]; rfl)
  rw [decodeCop0, if_neg hco]
  split
  case h_6 hne =>
    have hlt := coF_eq_one_iff.not.1 hco
    refine .reserved ?_ (hbc rfl hne) (by rw [h]; rfl)
    rw [riCell_move h hco]
    simp only [riSubs, mem_ofNat_cons, List.not_mem_nil, or_false, imp_false, BitVec.ofNat_eq_ofNat] at *
    omega
  case h_5 hs => exact .unmodelled (hri hs (by decide)) ⟨h, BitVec.eq_of_toNat_eq hs⟩
  all_goals
    next hs => exact .checked (hri hs (by decide)) (hbc hs (by decide)) fun hz => formatMov_eq h hs hz

theorem answer_cop0 (h : opF w = 16) : Answer w (decodeCop0 w) := by
  by_cases hco : coF w = 1
  · exact answer_co h hco
  · exact answer_move h hco

/-- The primary map outside SPECIAL, REGIMM and COP0. -/
theorem answer_primary (h0 : opF w ≠ 0) (h1 : opF w ≠ 1) (h16 : opF w ≠ 16) : Answer w (decode w) := by
  have hbc := not_bc0_of_opF h16
  have hri : ∀ {n}, (opF w).toNat = n → n ∉ riOps.map BitVec.toNat → ¬ RiCell w := fun hop hn => by
    rwa [riCell_primary h0 h1 h16, ← mem_map_toNat, hop]
  unfold decode
  split
  case h_1 hop => exact absurd (BitVec.eq_of_toNat_eq hop) h0
  case h_2 hop => exact absurd (BitVec.eq_of_toNat_eq hop) h1
  case h_3 hop => exact absurd (BitVec.eq_of_toNat_eq hop) h16
  case h_58 =>
    refine .reserved ?_ hbc (decide_eq_false h16).symm
    rw [riCell_primary h0 h1 h16]
    simp only [riOps, mem_ofNat_cons, List.not_mem_nil, or_false, imp_false, BitVec.ofNat_eq_ofNat] at *
    omega
  case h_4 hop | h_5 hop | h_18 hop | h_19 hop => exact .instr (hri hop (by decide)) hbc (formatJ_eq hop)
  case h_8 hop | h_9 hop | h_17 hop | h_22 hop | h_23 hop =>
    exact .checked (hri hop (by decide)) hbc fun hz => formatI_eq hop (by simp [hz])
  all_goals
    next hop => exact .instr (hri hop (by decide)) hbc (formatI_eq hop ⟨rfl, rfl, rfl⟩)

/-- What the decoder answers for a word. -/
theorem answer_decode (w : Word) : Answer w (decode w) := by
  by_cases h0 : opF w = 0
  · rw [decode_special h0]; exact answer_special h0
  by_cases h1 : opF w = 1
  · rw [decode_regimm h1]; exact answer_regimm h1
  by_cases h16 : opF w = 16
  · rw [decode_cop0 h16]; exact answer_cop0 h16
  exact answer_primary h0 h1 h16

/-! ## The statements -/

theorem decode_reserved_iff : (∃ c, decode w = .reserved c) ↔ RiCell w := by
  have ha := answer_decode w
  generalize decode w = d at ha
  cases ha with
  | instr hri | nonzeroReserved hri | unmodelled hri | reserved hri => simp [hri]

theorem decode_unmodelled_iff : decode w = .unmodelled ↔ Bc0 w := by
  have ha := answer_decode w
  generalize decode w = d at ha
  cases ha with
  | instr _ hbc | nonzeroReserved _ hbc | reserved _ hbc | unmodelled _ hbc => simp [hbc]

theorem decode_reserved_flag {c : Bool} (h : decode w = .reserved c) : c = decide (opF w = 16) := by
  cases h ▸ answer_decode w with
  | reserved _ _ hc => exact hc

end

/-- Settles O2: the decoder answers an instruction only for that instruction's word. -/
theorem encodeOfDecode : Obligations.EncodeOfDecode := by
  intro w i h
  cases h ▸ answer_decode w with
  | instr _ _ hw => exact hw

/-- Settles O4: the decoder answers a reserved word in the RI cells only, and the BC0 group where it stands. -/
theorem reservedWords : Obligations.ReservedWords :=
  fun _ => ⟨fun _ => decode_reserved_flag, decode_reserved_iff, decode_unmodelled_iff⟩

end Sys2Proof.Decode
end

section
/-! PROOFS. The instructions that are disabled (30_encoding.md R118): 64-bit operations outside the modes that have them (40_alu.md R125),
and privileged instructions where CP0 is not usable (44_system.md R238). -/

namespace Sys2Proof.Machine

section
variable {s : State}

theorem complete_require64_raise (h : ops64Enabled s = false) (k : Unit → Res (Flow × State)) :
    complete (require64 s >>= k) = .next (takeException .ri s) := by rw [require64_raise h]; rfl

theorem completeNext_require64_raise (h : ops64Enabled s = false) (k : Unit → Res State) :
    completeNext (require64 s >>= k) = .next (takeException .ri s) := by rw [require64_raise h]; rfl

theorem complete_requireCp0_raise (h : cp0Usable s = false) (k : Unit → Res (Flow × State)) :
    complete (requireCp0 s >>= k) = .next (takeException (.cpU 0) s) := by rw [requireCp0_raise h]; rfl

theorem completeNext_requireCp0_raise (h : cp0Usable s = false) (k : Unit → Res State) :
    completeNext (requireCp0 s >>= k) = .next (takeException (.cpU 0) s) := by rw [requireCp0_raise h]; rfl

theorem requireCp0_bind {α : Type} (h : cp0Usable s = true) (k : Unit → Res α) : (requireCp0 s >>= k) = k () := by
  rw [requireCp0_ok h]; rfl

/-- A privileged instruction is guarded by `RequireCP0()` before anything else (44_system.md R238). -/
theorem exec_privileged_raise {i : Instr} (hp : privileged i = true) (h : cp0Usable s = false) :
    exec i s = .next (takeException (.cpU 0) s) := by
  cases i with
  | mfc0 | dmfc0 | eret => exact complete_requireCp0_raise h _
  | mtc0 | dmtc0 | tlbr | tlbwi | tlbwr | tlbp | cache => exact completeNext_requireCp0_raise h _
  | _ => exact absurd hp Bool.false_ne_true

theorem exec_dmfc0_raise (hu : cp0Usable s = true) (h : ops64Enabled s = false) (rt rd : RegIdx) :
    exec (.dmfc0 rt rd) s = .next (takeException .ri s) :=
  (congrArg complete (requireCp0_bind hu _)).trans (complete_require64_raise h _)

theorem exec_dmtc0_raise (hu : cp0Usable s = true) (h : ops64Enabled s = false) (rt rd : RegIdx) :
    exec (.dmtc0 rt rd) s = .next (takeException .ri s) :=
  (congrArg completeNext (requireCp0_bind hu _)).trans (completeNext_require64_raise h _)

end

/-- Settles O38: every 64-bit operation begins with `Require64()`, in its result or before its access, and every privileged instruction
with `RequireCP0()`. -/
theorem disabledInstructionsTrap : Obligations.DisabledInstructionsTrap := by
  refine ⟨fun s d a b sa imm h => ?_, fun i s hp hu => exec_privileged_raise hp hu,
    fun s rt rd hu h => ⟨exec_dmfc0_raise hu h rt rd, exec_dmtc0_raise hu h rt rd⟩⟩
  have result : ∀ k, complete (require64 s >>= k) = .next (takeException .ri s) := complete_require64_raise h
  have access : ∀ o, after64 s o = .next (takeException .ri s) := after64_raise h
  simp only [List.forall_mem_cons]
  exact ⟨result _, result _, result _, result _, result _, result _, result _, result _, result _, result _, result _, result _,
    result _, result _, result _, access _, access _, access _, access _, access _, access _, access _, access _, access _, access _,
    access _, access _, access _, List.forall_mem_nil _⟩

end Sys2Proof.Machine
end

section
/-! PROOFS. Results of the add, subtract, logical, compare and shift instructions (40_alu.md R122 to R164): what each way to write a
destination answers, the exact results that have a word, and the shifts as divisions by powers of two. -/

namespace Sys2Proof.Machine

/-! ## The ways a destination is written (R122, R123, R125) -/

section
variable {s : State} {d : RegIdx}

theorem writeResult_eq (s : State) (d : RegIdx) (v : DWord) : writeResult s d v = .next (advance .next (writeReg s d v)) :=
  complete_ok .next (writeReg s d v)

theorem writeWord_ok {ok : Bool} (h : ok = true) (v : Word) :
    writeWord s d ok v = .next (advance .next (writeReg s d (sext32 v))) := by
  rw [writeWord, if_pos h, writeResult_eq]

theorem complete_require64_ok (h : ops64Enabled s = true) (k : Unit → Res (Flow × State)) :
    complete (require64 s >>= k) = complete (k ()) := by rw [require64_ok h]; rfl

theorem writeDouble_ok (h : ops64Enabled s = true) (v : DWord) : writeDouble s d v = .next (advance .next (writeReg s d v)) :=
  complete_require64_ok h _

theorem words2_eq_true {a b : RegIdx} (ha : isSext32 (readReg s a) = true) (hb : isSext32 (readReg s b) = true) :
    words2 s a b = true := by rw [words2, ha, hb]; rfl

/-! ## Results that trap on overflow (R124) -/

/-- The integers that some word of `w` bits has as its signed value. -/
theorem exists_toInt_eq_iff {w : Nat} (hw : 0 < w) (t : Int) :
    (∃ r : BitVec w, r.toInt = t) ↔ -2 ^ (w - 1) ≤ t ∧ t < 2 ^ (w - 1) := by
  constructor
  · rintro ⟨r, rfl⟩
    exact ⟨r.le_toInt, r.toInt_lt⟩
  · rintro ⟨hlo, hhi⟩
    exact ⟨BitVec.ofInt w t, BitVec.toInt_ofInt_eq_self hw hlo hhi⟩

theorem fits32_iff (t : Int) : fits32 t = true ↔ ∃ r : Word, r.toInt = t := by
  rw [exists_toInt_eq_iff (by decide), fits32, Bool.and_eq_true, decide_eq_true_iff, decide_eq_true_iff]
  omega

theorem fits64_iff (t : Int) : fits64 t = true ↔ ∃ r : DWord, r.toInt = t := by
  rw [exists_toInt_eq_iff (by decide), fits64, Bool.and_eq_true, decide_eq_true_iff, decide_eq_true_iff]
  omega

theorem writeWordTrap_exact {ok : Bool} (h : ok = true) {t : Int} {r : Word} (hr : r.toInt = t) :
    writeWordTrap s d ok t = .next (advance .next (writeReg s d (sext32 r))) := by
  have hf : fits32 t = true := (fits32_iff t).2 ⟨r, hr⟩
  rw [writeWordTrap, if_pos h, if_pos hf, writeResult_eq, ← hr, BitVec.ofInt_toInt]

theorem writeWordTrap_overflow {ok : Bool} (h : ok = true) {t : Int} (hn : ¬ ∃ r : Word, r.toInt = t) :
    writeWordTrap s d ok t = .next (takeException .ov s) := by
  have hf : ¬ fits32 t = true := (fits32_iff t).not.2 hn
  rw [writeWordTrap, if_pos h, if_neg hf, raiseIn, complete_raise]

theorem writeDoubleTrap_exact (h : ops64Enabled s = true) {t : Int} {r : DWord} (hr : r.toInt = t) :
    writeDoubleTrap s d t = .next (advance .next (writeReg s d r)) := by
  have hf : fits64 t = true := (fits64_iff t).2 ⟨r, hr⟩
  rw [writeDoubleTrap, complete_require64_ok h, if_pos hf, ← hr, BitVec.ofInt_toInt]
  rfl

theorem writeDoubleTrap_overflow (h : ops64Enabled s = true) {t : Int} (hn : ¬ ∃ r : DWord, r.toInt = t) :
    writeDoubleTrap s d t = .next (takeException .ov s) := by
  have hf : ¬ fits64 t = true := (fits64_iff t).not.2 hn
  rw [writeDoubleTrap, complete_require64_ok h, if_neg hf, complete_raise]

end

/-- Settles O13: on sext32 sources a sum or difference is written, or when it has to be exact, the word that is its value. -/
theorem wordAddSub : Obligations.WordAddSub := by
  intro s d a b imm ha
  refine ⟨writeWord_ok ha _, fun r hr => writeWordTrap_exact ha hr, fun hn => writeWordTrap_overflow ha hn, fun hb => ?_⟩
  have hw : words2 s a b = true := words2_eq_true ha hb
  exact ⟨writeWord_ok hw _, writeWord_ok hw _, fun r hr => writeWordTrap_exact hw hr, fun hn => writeWordTrap_overflow hw hn,
    fun r hr => writeWordTrap_exact hw hr, fun hn => writeWordTrap_overflow hw hn⟩

/-- Settles O14, as O13 with `Require64()` passed. -/
theorem doubleAddSub : Obligations.DoubleAddSub := by
  intro s d a b imm h
  exact ⟨writeDouble_ok h _, writeDouble_ok h _, writeDouble_ok h _,
    fun r hr => writeDoubleTrap_exact h hr, fun hn => writeDoubleTrap_overflow h hn,
    fun r hr => writeDoubleTrap_exact h hr, fun hn => writeDoubleTrap_overflow h hn,
    fun r hr => writeDoubleTrap_exact h hr, fun hn => writeDoubleTrap_overflow h hn⟩

/-! ## Shifts (R150 to R164) -/

theorem amount5_eq (s : State) (r : RegIdx) : amount5 s r = (readReg s r).toNat % 32 := BitVec.extractLsb'_toNat 0 5 _

theorem amount6_eq (s : State) (r : RegIdx) : amount6 s r = (readReg s r).toNat % 64 := BitVec.extractLsb'_toNat 0 6 _

/-- An arithmetic shift to the right is the division by a power of two that rounds down. -/
theorem sshiftRight_eq_ofInt_div {w : Nat} (x : BitVec w) (n : Nat) : x.sshiftRight n = BitVec.ofInt w (x.toInt / 2 ^ n) := by
  rw [BitVec.sshiftRight, Int.shiftRight_eq_div_pow]
  norm_cast

/-- The quotient of a word has a word, so its sign extension is that of the exact quotient. -/
theorem sext32_sshiftRight (x : Word) (n : Nat) : sext32 (x.sshiftRight n) = BitVec.ofInt 64 (x.toInt / 2 ^ n) := by
  rw [sext32, BitVec.signExtend, BitVec.toInt_sshiftRight, Int.shiftRight_eq_div_pow]
  norm_cast

/-- Settles O15: the amounts are the low bits of their registers, and the arithmetic shifts divide. -/
theorem shiftResults : Obligations.ShiftResults := by
  intro s d a b sa
  simp only [← amount5_eq, ← amount6_eq, ← sext32_sshiftRight, ← sshiftRight_eq_ofInt_div, Nat.add_comm 32]
  exact ⟨writeWord_ok rfl _, writeWord_ok rfl _,
    fun hw => ⟨writeWord_ok hw _, writeWord_ok hw _, writeWord_ok hw _, writeWord_ok hw _⟩,
    fun h => ⟨writeDouble_ok h _, writeDouble_ok h _, writeDouble_ok h _, writeDouble_ok h _, writeDouble_ok h _,
      writeDouble_ok h _, writeDouble_ok h _, writeDouble_ok h _, writeDouble_ok h _⟩⟩

/-! ## Logical instructions and comparisons (R138 to R149) -/

/-- A set on less than writes whether its sources are in the order of signed values. -/
theorem boolValue_ltS (x y : DWord) : boolValue (ltS x y) = if x.slt y then 1 else 0 := rfl

theorem boolValue_ltU (x y : DWord) : boolValue (ltU x y) = if x.ult y then 1 else 0 := rfl

/-- Settles O12: each of them writes its result with no check before it. -/
theorem logicalAndCompareResults : Obligations.LogicalAndCompareResults := by
  intro s d a b imm
  have written : ∀ v, writeResult s d v = .next (advance .next (writeReg s d v)) := writeResult_eq s d
  simp only [← boolValue_ltS, ← boolValue_ltU]
  exact ⟨written _, written _, written _, written _, written _, written _, written _, written _,
    written _, written _, written _, written _⟩

end Sys2Proof.Machine
end

section
/-! PROOFS. Undefined operands (40_alu.md R123, 41_muldiv.md R168, R169): what the ways an integer instruction ends write where its
sources leave the result undefined. -/

namespace Sys2Proof.Machine

section
variable {s : State} {d a b : RegIdx}

/-! ## Words (40_alu.md R123) -/

theorem writeDraw32_free (s : State) (d : RegIdx) :
    ∃ w : Word, writeDraw32 s d = .next (advance .next (writeReg { s with draws := s.draws + 1 } d (sext32 w))) :=
  ⟨low32 (draw s).1, writeResult_eq _ d _⟩

theorem writeWord_undefined {ok : Bool} (h : ok = false) (v : Word) :
    ∃ w : Word, writeWord s d ok v = .next (advance .next (writeReg { s with draws := s.draws + 1 } d (sext32 w))) := by
  rw [writeWord, if_neg (Bool.not_eq_true _ ▸ h)]
  exact writeDraw32_free s d

/-- Outside the precondition the first draw decides whether Integer Overflow is raised. -/
theorem writeWordTrap_undefined {ok : Bool} (h : ok = false) (t : Int) :
    writeWordTrap s d ok t = .next (takeException .ov { s with draws := s.draws + 1 }) ∨
      ∃ w : Word, writeWordTrap s d ok t = .next (advance .next (writeReg { s with draws := s.draws + 2 } d (sext32 w))) := by
  rw [writeWordTrap, if_neg (Bool.not_eq_true _ ▸ h)]
  split
  · exact .inl (complete_raise .ov _)
  · exact .inr (writeDraw32_free (draw s).2 d)

/-! ## HI and LO (41_muldiv.md R168, R169) -/

theorem drawPair32_free (h : hiLoFree s) :
    ∃ hi lo : Word, drawPair32 s = .next (advance .next (withHiLo { s with draws := s.draws + 2 } (sext32 hi) (sext32 lo))) :=
  ⟨low32 (draw s).1, low32 (draw (draw s).2).1, writePair_ok (s := (draw (draw s).2).2) h _ _⟩

theorem drawPair64_free (h : hiLoFree s) :
    ∃ hi lo : DWord, drawPair64 s = .next (advance .next (withHiLo { s with draws := s.draws + 2 } hi lo)) :=
  ⟨(draw s).1, (draw (draw s).2).1, writePair_ok (s := (draw (draw s).2).2) h _ _⟩

theorem wordPair_undefined (h : words2 s a b = false) (o : Out) : wordPair s a b o = drawPair32 s := by
  rw [wordPair, h]; rfl

theorem wordPair_defined (h : words2 s a b = true) (o : Out) : wordPair s a b o = o := by rw [wordPair, h]; rfl

/-! ## Division by zero (41_muldiv.md R169) -/

theorem exec_div_zero (hw : words2 s a b = true) (hz : low32 (readReg s b) = 0) : exec (.div a b) s = drawPair32 s :=
  (wordPair_defined hw _).trans (if_pos (by rw [hz]; rfl))

theorem exec_divu_zero (hw : words2 s a b = true) (hz : low32 (readReg s b) = 0) : exec (.divu a b) s = drawPair32 s :=
  (wordPair_defined hw _).trans (if_pos (by rw [hz]; rfl))

theorem exec_ddiv_zero (h : ops64Enabled s = true) (hz : readReg s b = 0) : exec (.ddiv a b) s = drawPair64 s :=
  (after64_ok h _).trans (if_pos (by rw [hz]; rfl))

theorem exec_ddivu_zero (h : ops64Enabled s = true) (hz : readReg s b = 0) : exec (.ddivu a b) s = drawPair64 s :=
  (after64_ok h _).trans (if_pos (by rw [hz]; rfl))

/-! ## The instructions -/

/-- The 32-bit instructions of R123 that raise nothing write a free word. -/
theorem exec_word_undefined {i : Instr} {imm : BitVec 16} {sa : BitVec 5}
    (hi : (isSext32 (readReg s a) = false ∧ i ∈ [Instr.addiu d a imm, .srl d a sa, .sra d a sa, .srlv d a b, .srav d a b]) ∨
      (words2 s a b = false ∧ i ∈ [Instr.addu d a b, .subu d a b])) :
    ∃ w : Word, exec i s = .next (advance .next (writeReg { s with draws := s.draws + 1 } d (sext32 w))) := by
  simp only [List.mem_cons, List.not_mem_nil, or_false] at hi
  rcases hi with ⟨ha, hi⟩ | ⟨hw, hi⟩
  · rcases hi with rfl | rfl | rfl | rfl | rfl <;> exact writeWord_undefined ha _
  · rcases hi with rfl | rfl <;> exact writeWord_undefined hw _

/-- ADD, SUB and ADDI raise Integer Overflow or write a free word (R123). -/
theorem exec_wordTrap_undefined {i : Instr} {imm : BitVec 16}
    (hi : (isSext32 (readReg s a) = false ∧ i = .addi d a imm) ∨ (words2 s a b = false ∧ i ∈ [Instr.add d a b, .sub d a b])) :
    exec i s = .next (takeException .ov { s with draws := s.draws + 1 }) ∨
      ∃ w : Word, exec i s = .next (advance .next (writeReg { s with draws := s.draws + 2 } d (sext32 w))) := by
  simp only [List.mem_cons, List.not_mem_nil, or_false] at hi
  rcases hi with ⟨ha, rfl⟩ | ⟨hw, hi⟩
  · exact writeWordTrap_undefined ha _
  · rcases hi with rfl | rfl <;> exact writeWordTrap_undefined hw _

end

/-- Settles O18: each way an integer instruction ends takes its draws where the operands leave the result undefined. -/
theorem undefinedOperands : Obligations.UndefinedOperands := by
  refine ⟨fun s d a b imm sa => ⟨fun i hi => exec_word_undefined hi, fun i hi => exec_wordTrap_undefined hi⟩,
    fun s a b hf => ⟨fun hw => ?_, fun hw hz => ?_, fun h hz => ?_⟩⟩
  · have undefined : ∀ o, ∃ hi lo : Word, wordPair s a b o =
        .next (advance .next (withHiLo { s with draws := s.draws + 2 } (sext32 hi) (sext32 lo))) := fun o =>
      wordPair_undefined hw o ▸ drawPair32_free hf
    simp only [List.forall_mem_cons]
    exact ⟨undefined _, undefined _, undefined _, undefined _, List.forall_mem_nil _⟩
  · simp only [List.forall_mem_cons, exec_div_zero hw hz, exec_divu_zero hw hz]
    exact ⟨drawPair32_free hf, drawPair32_free hf, List.forall_mem_nil _⟩
  · simp only [List.forall_mem_cons, exec_ddiv_zero h hz, exec_ddivu_zero h hz]
    exact ⟨drawPair64_free hf, drawPair64_free hf, List.forall_mem_nil _⟩

end Sys2Proof.Machine
end

section
/-! PROOFS. Multiply, divide, and the moves from and to HI and LO (41_muldiv.md R167 to R182, 70_reset_and_hazards.md R334): the halves
of an exact product, quotient and remainder of words, and the writes of HI and LO inside and outside their hazard windows. -/

namespace Sys2Proof.Machine

/-! ## Exact products (R170 to R173, R182) -/

section
variable {w n : Nat}

/-- The product of two signed values of `w` bits is the signed value of a word of twice their width. -/
theorem toInt_ofInt_mul (hw : 0 < w) (hn : n = w * 2) (x y : BitVec w) :
    (BitVec.ofInt n (x.toInt * y.toInt)).toInt = x.toInt * y.toInt := by
  have hlo : -2 ^ (w * 2 - 2) ≤ x.toInt * y.toInt := BitVec.le_toInt_mul_toInt
  have hhi : x.toInt * y.toInt ≤ 2 ^ (w * 2 - 2) := BitVec.toInt_mul_toInt_le
  have hpow : (2 : Int) ^ (w * 2 - 2) < 2 ^ (w * 2 - 1) := Int.pow_lt_pow_of_lt (by decide) (by omega)
  subst hn
  exact BitVec.toInt_ofInt_eq_self (by omega) (by omega) (by omega)

theorem toNat_ofNat_mul (hn : n = w * 2) (x y : BitVec w) : (BitVec.ofNat n (x.toNat * y.toNat)).toNat = x.toNat * y.toNat :=
  (BitVec.toNat_ofNat _ _).trans (Nat.mod_eq_of_lt (hn ▸ BitVec.toNat_mul_toNat_lt))

end

section
variable {s : State} {a b : RegIdx}

/-- The pair written is the upper and the lower half of the product's word. -/
theorem writeProduct64_halves (hf : hiLoFree s) (p : DWord) :
    ∃ hi lo : Word, hi ++ lo = p ∧ writeProduct64 s p = .next (advance .next (withHiLo s (sext32 hi) (sext32 lo))) :=
  ⟨_, _, BitVec.extractLsb'_append_extractLsb' (w := 32) (len := 32), writePair_ok hf _ _⟩

theorem writeProduct128_halves (hf : hiLoFree s) (p : BitVec 128) :
    ∃ hi lo : DWord, hi ++ lo = p ∧ writeProduct128 s p = .next (advance .next (withHiLo s hi lo)) :=
  ⟨_, _, BitVec.extractLsb'_append_extractLsb' (w := 64) (len := 64), writePair_ok hf _ _⟩

theorem exec_mult_exact (hw : words2 s a b = true) :
    ∃ p : DWord, p.toInt = (low32 (readReg s a)).toInt * (low32 (readReg s b)).toInt ∧ exec (.mult a b) s = writeProduct64 s p :=
  ⟨_, toInt_ofInt_mul (by decide) rfl _ _, wordPair_defined hw _⟩

theorem exec_multu_exact (hw : words2 s a b = true) :
    ∃ p : DWord, p.toNat = (low32 (readReg s a)).toNat * (low32 (readReg s b)).toNat ∧ exec (.multu a b) s = writeProduct64 s p :=
  ⟨_, toNat_ofNat_mul rfl _ _, wordPair_defined hw _⟩

theorem exec_dmult_exact (h : ops64Enabled s = true) :
    ∃ p : BitVec 128, p.toInt = (readReg s a).toInt * (readReg s b).toInt ∧ exec (.dmult a b) s = writeProduct128 s p :=
  ⟨_, toInt_ofInt_mul (by decide) rfl _ _, after64_ok h _⟩

theorem exec_dmultu_exact (h : ops64Enabled s = true) :
    ∃ p : BitVec 128, p.toNat = (readReg s a).toNat * (readReg s b).toNat ∧ exec (.dmultu a b) s = writeProduct128 s p :=
  ⟨_, toNat_ofNat_mul rfl _ _, after64_ok h _⟩

end

/-- Settles O16: the word of each product is exact, and HI and LO are its halves. -/
theorem multiplyResults : Obligations.MultiplyResults := by
  refine fun s a b hf => ⟨fun hw => ⟨?mult, ?multu⟩, fun h => ⟨?dmult, ?dmultu⟩⟩
  case mult =>
    obtain ⟨p, hp, hx⟩ := exec_mult_exact hw
    obtain ⟨hi, lo, rfl, hwrite⟩ := writeProduct64_halves hf p
    exact ⟨hi, lo, hp, hx.trans hwrite⟩
  case multu =>
    obtain ⟨p, hp, hx⟩ := exec_multu_exact hw
    obtain ⟨hi, lo, rfl, hwrite⟩ := writeProduct64_halves hf p
    exact ⟨hi, lo, hp, hx.trans hwrite⟩
  case dmult =>
    obtain ⟨p, hp, hx⟩ := exec_dmult_exact h
    obtain ⟨hi, lo, rfl, hwrite⟩ := writeProduct128_halves hf p
    exact ⟨hi, lo, hp, hx.trans hwrite⟩
  case dmultu =>
    obtain ⟨p, hp, hx⟩ := exec_dmultu_exact h
    obtain ⟨hi, lo, rfl, hwrite⟩ := writeProduct128_halves hf p
    exact ⟨hi, lo, hp, hx.trans hwrite⟩

/-! ## Quotient and remainder (R174 to R177, R182) -/

section
variable {w : Nat} {x y : BitVec w}

theorem ofInt_quot (x y : BitVec w) : BitVec.ofInt w (quot x.toInt y.toInt) = x.sdiv y :=
  BitVec.eq_of_toInt_eq ((BitVec.toInt_ofInt _).trans (BitVec.toInt_sdiv x y).symm)

theorem ofInt_rem (x y : BitVec w) : BitVec.ofInt w (rem x.toInt y.toInt) = x.srem y := by
  rw [rem, quot, ← Int.tmod_def, ← BitVec.toInt_srem, BitVec.ofInt_toInt]

theorem toInt_ne_zero_iff : y.toInt ≠ 0 ↔ y ≠ 0 := BitVec.toInt_zero (w := w) ▸ BitVec.toInt_ne

theorem toNat_ne_zero_iff : y.toNat ≠ 0 ↔ y ≠ 0 := (BitVec.toNat_ne (y := 0)).symm

/-- The one overflowing division: the quotient wraps to the most negative value, and the remainder is 0. -/
theorem sdiv_srem_overflow (hw : 0 < w) :
    (BitVec.intMin w).sdiv (-1#w) = BitVec.intMin w ∧ (BitVec.intMin w).srem (-1#w) = 0 := by
  have hone : (-1#w).toInt = -1 := by rw [BitVec.neg_one_eq_allOnes, BitVec.toInt_allOnes, if_pos hw]
  exact ⟨BitVec.intMin_sdiv_neg_one, BitVec.srem_zero_of_dvd (hone ▸ (isUnit_neg_one (α := Int)).dvd)⟩

theorem sdiv_srem_exact (h : ¬ (x = BitVec.intMin w ∧ y = -1#w)) :
    x.toInt = y.toInt * (x.sdiv y).toInt + (x.srem y).toInt := by
  rw [BitVec.toInt_sdiv_of_ne_or_ne x y (not_and_or.1 h), BitVec.toInt_srem, Int.mul_tdiv_add_tmod]

theorem natAbs_toInt_srem_lt (hy : y ≠ 0) : (x.srem y).toInt.natAbs < y.toInt.natAbs := by
  rw [BitVec.toInt_srem, Int.natAbs_tmod]
  exact Nat.mod_lt _ (Int.natAbs_pos.2 (toInt_ne_zero_iff.2 hy))

/-- A remainder other than 0 has the sign of the dividend. -/
theorem toInt_srem_neg_iff (hr : x.srem y ≠ 0) : (x.srem y).toInt < 0 ↔ x.toInt < 0 := by
  have hdvd : ¬ y.toInt ∣ x.toInt := fun hd => hr (BitVec.srem_zero_of_dvd hd)
  rw [← Int.sign_eq_neg_one_iff_neg, BitVec.toInt_srem, Int.sign_tmod, if_neg hdvd, Int.sign_eq_neg_one_iff_neg]

/-- What R13 and R182 ask of a signed quotient and remainder, in the overflowing case and in every other. -/
theorem sdiv_srem_spec (hw : 0 < w) (hy : y ≠ 0) {m n : BitVec w} (hm : m = BitVec.intMin w) (hn : n = -1#w) :
    (x = m → y = n → x.sdiv y = m ∧ x.srem y = 0) ∧
    (¬ (x = m ∧ y = n) →
      x.toInt = y.toInt * (x.sdiv y).toInt + (x.srem y).toInt ∧ (x.srem y).toInt.natAbs < y.toInt.natAbs ∧
      (x.srem y ≠ 0 → ((x.srem y).toInt < 0 ↔ x.toInt < 0))) := by
  subst hm hn
  refine ⟨?overflow, fun h => ⟨sdiv_srem_exact h, natAbs_toInt_srem_lt hy, toInt_srem_neg_iff⟩⟩
  rintro rfl rfl
  exact sdiv_srem_overflow hw

end

section
variable {s : State} {a b : RegIdx}

/-- DIV on sext32 sources and a nonzero divisor. -/
theorem exec_div_nonzero (hw : words2 s a b = true) (hz : low32 (readReg s b) ≠ 0) :
    exec (.div a b) s = writePair s (sext32 ((low32 (readReg s a)).srem (low32 (readReg s b))))
      (sext32 ((low32 (readReg s a)).sdiv (low32 (readReg s b)))) := by
  rw [← ofInt_quot, ← ofInt_rem]
  exact (wordPair_defined hw _).trans (if_neg (toInt_ne_zero_iff.2 hz))

theorem exec_divu_nonzero (hw : words2 s a b = true) (hz : low32 (readReg s b) ≠ 0) :
    exec (.divu a b) s = writePair s (sext32 (low32 (readReg s a) % low32 (readReg s b)))
      (sext32 (low32 (readReg s a) / low32 (readReg s b))) := by
  rw [BitVec.udiv_def, BitVec.umod_def]
  exact (wordPair_defined hw _).trans (if_neg (toNat_ne_zero_iff.2 hz))

theorem exec_ddiv_nonzero (h : ops64Enabled s = true) (hz : readReg s b ≠ 0) :
    exec (.ddiv a b) s = writePair s ((readReg s a).srem (readReg s b)) ((readReg s a).sdiv (readReg s b)) := by
  rw [← ofInt_quot, ← ofInt_rem]
  exact (after64_ok h _).trans (if_neg (toInt_ne_zero_iff.2 hz))

theorem exec_ddivu_nonzero (h : ops64Enabled s = true) (hz : readReg s b ≠ 0) :
    exec (.ddivu a b) s = writePair s (readReg s a % readReg s b) (readReg s a / readReg s b) := by
  rw [BitVec.udiv_def, BitVec.umod_def]
  exact (after64_ok h _).trans (if_neg (toNat_ne_zero_iff.2 hz))

end

/-- Settles O17: outside the hazard a division by a nonzero divisor writes remainder and quotient of its words. -/
theorem divideResults : Obligations.DivideResults := by
  refine fun s a b hf => ⟨fun hw hz => ?div, fun h hz => ?ddiv, fun hw hz => ?divu, fun h hz => ?ddivu⟩
  case div => exact ⟨_, _, (exec_div_nonzero hw hz).trans (writePair_ok hf _ _), sdiv_srem_spec (by decide) hz rfl rfl⟩
  case ddiv => exact ⟨_, _, (exec_ddiv_nonzero h hz).trans (writePair_ok hf _ _), sdiv_srem_spec (by decide) hz rfl rfl⟩
  case divu => exact (exec_divu_nonzero hw hz).trans (writePair_ok hf _ _)
  case ddivu => exact (exec_ddivu_nonzero h hz).trans (writePair_ok hf _ _)

/-! ## Writes of HI and LO and their hazard (R167, R178 to R181, 70_reset_and_hazards.md R334) -/

section
variable {s : State} {a b : RegIdx}

theorem writeHi_ok (h : s.hiReadAge = 0) (v : DWord) : writeHi s v = .ok { s with hi := v } := if_neg (by omega)

theorem writeHi_refused (h : s.hiReadAge > 0) (v : DWord) : writeHi s v = .error (.refuse .hiLoHazard) := if_pos h

theorem writeLo_ok (h : s.loReadAge = 0) (v : DWord) : writeLo s v = .ok { s with lo := v } := if_neg (by omega)

theorem writeLo_refused (h : s.loReadAge > 0) (v : DWord) : writeLo s v = .error (.refuse .hiLoHazard) := if_pos h

theorem exec_mthi (s : State) (r : RegIdx) : exec (.mthi r) s = completeNext (writeHi s (readReg s r)) := rfl

theorem exec_mtlo (s : State) (r : RegIdx) : exec (.mtlo r) s = completeNext (writeLo s (readReg s r)) := rfl

/-- Draws do not age the hazard counters. -/
theorem drawPair32_refused (h : s.hiReadAge > 0 ∨ s.loReadAge > 0) : drawPair32 s = .refused .hiLoHazard :=
  writePair_refused (s := (draw (draw s).2).2) h _ _

theorem drawPair64_refused (h : s.hiReadAge > 0 ∨ s.loReadAge > 0) : drawPair64 s = .refused .hiLoHazard :=
  writePair_refused (s := (draw (draw s).2).2) h _ _

/-- The word multiplies and divides are refused with their pair, whether it is defined or drawn. -/
theorem wordPair_refused (h : s.hiReadAge > 0 ∨ s.loReadAge > 0) {o : Out} (ho : o = .refused .hiLoHazard) :
    wordPair s a b o = .refused .hiLoHazard := by
  cases hw : words2 s a b with
  | false => rw [wordPair_undefined hw, drawPair32_refused h]
  | true => rw [wordPair_defined hw, ho]

/-- A divide inside the hazard: the pair drawn for a zero divisor is refused as the pair of any other. -/
theorem dividePair_refused (h : s.hiReadAge > 0 ∨ s.loReadAge > 0) {zero : Prop} [Decidable zero] {o : Out}
    (ho : o = .refused .hiLoHazard) (hi lo : DWord) : (if zero then o else writePair s hi lo) = .refused .hiLoHazard := by
  rw [ho, writePair_refused h, ite_self]

end

/-- Settles O19: each move and each write of the pair, then the three steps of the window counted down. -/
theorem hiLoMovesAndHazard : Obligations.HiLoMovesAndHazard := by
  refine ⟨fun s r => ⟨complete_ok _ _, complete_ok _ _, fun h => ?mthi, fun h => ?mtlo⟩, fun s r h => ?mthiRefused,
    fun s r h => ?mtloRefused, fun s a b h => ?pairRefused, fun s h => ?hiWindow, fun s h => ?loWindow⟩
  case mthi => rw [exec_mthi, writeHi_ok h, completeNext_ok]
  case mtlo => rw [exec_mtlo, writeLo_ok h, completeNext_ok]
  case mthiRefused => rw [exec_mthi, writeHi_refused h, completeNext_refuse]
  case mtloRefused => rw [exec_mtlo, writeLo_refused h, completeNext_refuse]
  case pairRefused =>
    have product : ∀ hi lo, writePair s hi lo = .refused .hiLoHazard := writePair_refused h
    have word (o : Out) (ho : o = .refused .hiLoHazard) : wordPair s a b o = .refused .hiLoHazard := wordPair_refused h ho
    refine ⟨word _ (product _ _), word _ (product _ _), word _ (dividePair_refused h (drawPair32_refused h) _ _),
      word _ (dividePair_refused h (drawPair32_refused h) _ _), fun h64 => ?_⟩
    have double (o : Out) (ho : o = .refused .hiLoHazard) : after64 s o = .refused .hiLoHazard := (after64_ok h64 o).trans ho
    exact ⟨double _ (product _ _), double _ (product _ _), double _ (dividePair_refused h (drawPair64_refused h) _ _),
      double _ (dividePair_refused h (drawPair64_refused h) _ _)⟩
  case hiWindow => simp only [beginStep_hiReadAge, h]; decide
  case loWindow => simp only [beginStep_loReadAge, h]; decide

end Sys2Proof.Machine
end

section
/-! PROOFS. Branches and jumps (42_control.md R183 to R208): the state each shape of branch goes on with, and the target of J and JAL as
the one address with its fields. -/

namespace Sys2Proof.Machine

/-! ## The shapes of branch (R183, R186, R187) -/

section
variable (p : Prop) [Decidable p] (o : BitVec 16) (s : State)

/-- A branch goes on along one of two flows from the same state, which for a linking branch is the linked one. -/
theorem complete_branch (f g : Flow) : complete (.ok (if decide p then f else g, s)) =
    .next (if p then advance f s else advance g s) := by
  by_cases h : p
  · rw [decide_eq_true h, if_pos rfl, if_pos h, complete_ok]
  · rw [decide_eq_false h, if_neg Bool.false_ne_true, if_neg h, complete_ok]

theorem branchIf_eq : branchIf (decide p) o s =
    .next (if p then advance (.taken (branchTarget s.pc o)) s else advance .notTaken s) := complete_branch p s _ _

theorem branchLikely_eq : branchLikely (decide p) o s =
    .next (if p then advance (.taken (branchTarget s.pc o)) s else advance .annul s) := complete_branch p s _ _

theorem branchLink_ok {a : RegIdx} (ha : a ≠ 31) : branchLink a (decide p) o s =
    .next (if p then advance (.taken (branchTarget s.pc o)) (link s) else advance .notTaken (link s)) :=
  (if_neg ha).trans (complete_branch p (link s) _ _)

theorem branchLinkLikely_ok {a : RegIdx} (ha : a ≠ 31) : branchLinkLikely a (decide p) o s =
    .next (if p then advance (.taken (branchTarget s.pc o)) (link s) else advance .annul (link s)) :=
  (if_neg ha).trans (complete_branch p (link s) _ _)

end

theorem branchLink_refused (c : Bool) (o : BitVec 16) (s : State) : branchLink 31 c o s = .refused .linkOverwritesSource := if_pos rfl

theorem branchLinkLikely_refused (c : Bool) (o : BitVec 16) (s : State) : branchLinkLikely 31 c o s = .refused .linkOverwritesSource :=
  if_pos rfl

/-- Settles O20: each branch is its shape at its own condition. -/
theorem branchResults : Obligations.BranchResults := by
  rintro s a b o _ rfl
  have plain (p : Prop) [Decidable p] := branchIf_eq p o s
  have likely (p : Prop) [Decidable p] := branchLikely_eq p o s
  exact ⟨plain (readReg s a = readReg s b), plain (readReg s a ≠ readReg s b), plain ((readReg s a).toInt ≤ 0),
    plain ((readReg s a).toInt > 0), plain ((readReg s a).toInt < 0), plain ((readReg s a).toInt ≥ 0),
    likely (readReg s a = readReg s b), likely (readReg s a ≠ readReg s b), likely ((readReg s a).toInt ≤ 0),
    likely ((readReg s a).toInt > 0), likely ((readReg s a).toInt < 0), likely ((readReg s a).toInt ≥ 0)⟩

/-- Settles O21: r31 as source is refused before the condition is looked at; any other source leaves the shape's two flows from the
linked state. -/
theorem linkingBranchResults : Obligations.LinkingBranchResults := by
  rintro s a o _ rfl
  refine ⟨?refused, fun ha => ⟨branchLink_ok ((readReg s a).toInt < 0) o s ha, branchLink_ok ((readReg s a).toInt ≥ 0) o s ha,
    branchLinkLikely_ok ((readReg s a).toInt < 0) o s ha, branchLinkLikely_ok ((readReg s a).toInt ≥ 0) o s ha⟩⟩
  rintro rfl
  simp only [List.forall_mem_cons]
  exact ⟨branchLink_refused (ltz (readReg s 31)) o s, branchLink_refused (gez (readReg s 31)) o s,
    branchLinkLikely_refused (ltz (readReg s 31)) o s, branchLinkLikely_refused (gez (readReg s 31)) o s, List.forall_mem_nil _⟩

/-! ## Jumps (R184, R186, R205 to R208) -/

/-- A doubleword is the target of J and JAL when it has that target's three fields. -/
theorem eq_jumpTarget {pc target : DWord} {t : BitVec 26} (hregion : target.extractLsb' 28 36 = (pc + 4).extractLsb' 28 36)
    (hfield : target.extractLsb' 2 26 = t) (haligned : target.extractLsb' 0 2 = 0) : target = jumpTarget pc t := by
  rw [jumpTarget, ← hregion, ← hfield, ← haligned,
    BitVec.extractLsb'_append_extractLsb'_eq_extractLsb' (start₂ := 28) (start₁ := 2) rfl,
    BitVec.extractLsb'_append_extractLsb'_eq_extractLsb' (start₂ := 2) (start₁ := 0) rfl, BitVec.extractLsb'_eq_self]

theorem execJalr_ok {d a : RegIdx} (h : d ≠ a) (s : State) :
    execJalr d a s = .next (advance (.taken (readReg s a)) (writeReg s d (linkAddress s))) := if_neg h

theorem execJalr_refused (a : RegIdx) (s : State) : execJalr a a s = .refused .linkOverwritesSource := if_pos rfl

/-- Settles O22: the fields of J and JAL leave one target, and JALR reads its target before it writes the link. -/
theorem jumpResults : Obligations.JumpResults := by
  intro s d a t target hregion hfield haligned
  obtain rfl := eq_jumpTarget hregion hfield haligned
  refine ⟨complete_ok _ _, complete_ok _ (link s), complete_ok _ _, fun h => execJalr_ok h s, ?refused⟩
  rintro rfl
  exact execJalr_refused d s

end Sys2Proof.Machine
end

section
/-! PROOFS. Partial loads and stores, the unaligned load idiom, and load-linked and store-conditional in RAM (43_loadstore.md R220 to
R224, R229 to R237): the merges bit by bit, the masked stores byte by byte. -/

namespace Sys2Proof.Machine

/-! ## The merges of partial loads, bit by bit (R220 to R223) -/

theorem getLsbD_low32 (v : DWord) {j : Nat} (h : j < 32) : (low32 v).getLsbD j = v.getLsbD j := by
  rw [low32, BitVec.getLsbD_setWidth, decide_eq_true h, Bool.true_and]

/-- A word shifted up by `n`, with the low `n` bits of the old one below it. -/
theorem getLsbD_mergeUpper {w : Nat} (x old : BitVec w) (n : Nat) {j : Nat} (h : j < w) :
    ((x <<< n) ||| (old &&& BitVec.ofNat w (2 ^ n - 1))).getLsbD j = if j < n then old.getLsbD j else x.getLsbD (j - n) := by
  rw [BitVec.getLsbD_or, BitVec.getLsbD_and, BitVec.getLsbD_shiftLeft, BitVec.getLsbD_ofNat, Nat.testBit_two_pow_sub_one]
  by_cases hj : j < n <;> simp [h, hj]

/-- A word shifted down by `n`, with the high `n` bits of the old one above it. -/
theorem getLsbD_mergeLower {w : Nat} (x old : BitVec w) (n : Nat) {j : Nat} (h : j < w) :
    ((old &&& ~~~(BitVec.allOnes w >>> n)) ||| (x >>> n)).getLsbD j = if n + j < w then x.getLsbD (n + j) else old.getLsbD j := by
  rw [BitVec.getLsbD_or, BitVec.getLsbD_and, BitVec.getLsbD_not, BitVec.getLsbD_ushiftRight, BitVec.getLsbD_ushiftRight,
    BitVec.getLsbD_allOnes]
  by_cases hj : n + j < w
  · simp [hj]
  · simp [h, hj, BitVec.getLsbD_of_ge x (n + j) (by omega)]

theorem getLsbD_lwlWord (k : Nat) (x old : Word) {j : Nat} (h : j < 32) :
    (lwlWord k x old).getLsbD j = if j < 8 * k then old.getLsbD j else x.getLsbD (j - 8 * k) := getLsbD_mergeUpper x old (8 * k) h

theorem getLsbD_ldlDouble (k : Nat) (x old : DWord) {j : Nat} (h : j < 64) :
    (ldlDouble k x old).getLsbD j = if j < 8 * k then old.getLsbD j else x.getLsbD (j - 8 * k) := getLsbD_mergeUpper x old (8 * k) h

theorem getLsbD_lwrWord {k : Nat} (hk : k < 4) (x old : Word) {j : Nat} (h : j < 32) : (lwrWord k x old).getLsbD j =
    if j < 8 * k + 8 then x.getLsbD (j + 8 * (3 - k)) else old.getLsbD j := by
  have hrange : 8 * (3 - k) + j < 32 ↔ j < 8 * k + 8 := by omega
  rw [lwrWord, getLsbD_mergeLower x old _ h, Nat.add_comm j]
  simp only [hrange]

theorem getLsbD_ldrDouble {k : Nat} (hk : k < 8) (x old : DWord) {j : Nat} (h : j < 64) : (ldrDouble k x old).getLsbD j =
    if j < 8 * k + 8 then x.getLsbD (j + 8 * (7 - k)) else old.getLsbD j := by
  have hrange : 8 * (7 - k) + j < 64 ↔ j < 8 * k + 8 := by omega
  rw [ldrDouble, getLsbD_mergeLower x old _ h, Nat.add_comm j]
  simp only [hrange]

/-- LWL merges the low halves of the unit and of the register. -/
theorem getLsbD_lwlWord_low32 (k : Nat) (v old : DWord) {j : Nat} (h : j < 32) : (lwlWord k (low32 v) (low32 old)).getLsbD j =
    if j < 8 * k then old.getLsbD j else v.getLsbD (j - 8 * k) := by
  rw [getLsbD_lwlWord k _ _ h, getLsbD_low32 old h, getLsbD_low32 v (by omega)]

/-- LWR merges the low halves of the unit and of the register. -/
theorem getLsbD_lwrWord_low32 {k : Nat} (hk : k < 4) (v old : DWord) {j : Nat} (h : j < 32) :
    (lwrWord k (low32 v) (low32 old)).getLsbD j = if j < 8 * k + 8 then v.getLsbD (j + 8 * (3 - k)) else old.getLsbD j := by
  rw [getLsbD_lwrWord hk _ _ h, getLsbD_low32 old h]
  split
  case isTrue hj => exact getLsbD_low32 v (by omega)
  case isFalse => rfl

/-- Settles O26: what each partial load merges is what its function of the unit and the register does bit by bit. -/
theorem partialLoadResults : Obligations.PartialLoadResults := by
  rintro s rt base o pa _ h rfl
  have hword := memRead_ram h .word
  have hdword := memRead_ram h .dword
  have h84 : (effAddr s base o).toNat % 8 % 4 = (effAddr s base o).toNat % 4 := Nat.mod_mod_of_dvd _ (by decide)
  have hk4 := Nat.mod_lt (effAddr s base o).toNat (show 4 > 0 by decide)
  have hk8 := Nat.mod_lt (effAddr s base o).toNat (show 8 > 0 by decide)
  rw [show readReg s base + o.signExtend 64 = effAddr s base o from rfl, h84]
  exact ⟨⟨_, lwl_ok hword, fun j hj => getLsbD_lwlWord_low32 _ _ _ hj⟩,
    ⟨_, fun j hj => getLsbD_lwrWord_low32 hk4 _ _ hj, fun hk => by rw [hk]; exact lwr_whole hword hk, fun hk => ⟨_, lwr_part hword hk⟩⟩,
    fun h64 => ⟨⟨_, ldl_ok h64 hdword, fun j hj => getLsbD_ldlDouble _ _ _ hj⟩,
      ⟨_, ldr_ok h64 hdword, fun j hj => getLsbD_ldrDouble hk8 _ _ hj⟩⟩⟩

/-! ## The unaligned load idiom (R224) -/

/-- Two big-endian values have a bit in common when it lies in the same byte of memory. -/
theorem Memory.getLsbD_readBE_eq (m : Memory) {a b n i j : Nat} (hn : n ≤ 8) (hi : i < 8 * n) (hj : j < 8 * n)
    (hbyte : a + (n - 1 - i / 8) = b + (n - 1 - j / 8)) (hbit : i % 8 = j % 8) :
    (m.readBE a n).getLsbD i = (m.readBE b n).getLsbD j := by
  rw [Memory.getLsbD_readBE m a n i hn hi, Memory.getLsbD_readBE m b n j hn hj, hbyte, hbit]

/-- The two partial loads of the idiom cover the value at `a`: the right one at offset `r` of the unit at `hi`, and above it the left
one at offset `l` of the unit at `lo`, which leaves no bit of the old register. -/
theorem Memory.getLsbD_readBE_of_units (m : Memory) {a lo hi l r n j : Nat} (old : Bool) (hn : n ≤ 8) (hj : j < 8 * n)
    (hlo : lo + l = a) (hhi : hi + r = a + (n - 1)) (hr : r < n) (hcover : l ≤ r + 1) :
    (if j < 8 * r + 8 then (m.readBE hi n).getLsbD (j + 8 * (n - 1 - r))
      else if j < 8 * l then old else (m.readBE lo n).getLsbD (j - 8 * l)) = (m.readBE a n).getLsbD j := by
  by_cases hright : j < 8 * r + 8
  · rw [if_pos hright]
    exact m.getLsbD_readBE_eq hn (by omega) hj (by omega) (by omega)
  · rw [if_neg hright, if_neg (show ¬ j < 8 * l by omega)]
    exact m.getLsbD_readBE_eq hn (by omega) hj (by omega) (by omega)

theorem lwrWord_lwlWord_readBE (m : Memory) (a : Nat) (old : Word) :
    lwrWord ((a + 3) % 4) (low32 (m.readBE ((a + 3) / 4 * 4) 4)) (lwlWord (a % 4) (low32 (m.readBE (a / 4 * 4) 4)) old) =
      low32 (m.readBE a 4) := by
  apply BitVec.eq_of_getLsbD_eq
  intro j hj
  rw [getLsbD_low32 _ hj, ← m.getLsbD_readBE_of_units (lo := a / 4 * 4) (hi := (a + 3) / 4 * 4) (l := a % 4) (r := (a + 3) % 4)
    (old.getLsbD j) (by decide) hj (by omega) (by omega) (by omega) (by omega),
    getLsbD_lwrWord (by omega) _ _ hj, getLsbD_lwlWord _ _ _ hj, getLsbD_low32 _ (show j - 8 * (a % 4) < 32 by omega)]
  split
  case isTrue hright => exact getLsbD_low32 _ (by omega)
  case isFalse => rfl

theorem ldrDouble_ldlDouble_readBE (m : Memory) (a : Nat) (old : DWord) :
    ldrDouble ((a + 7) % 8) (m.readBE ((a + 7) / 8 * 8) 8) (ldlDouble (a % 8) (m.readBE (a / 8 * 8) 8) old) = m.readBE a 8 := by
  apply BitVec.eq_of_getLsbD_eq
  intro j hj
  rw [← m.getLsbD_readBE_of_units (lo := a / 8 * 8) (hi := (a + 7) / 8 * 8) (l := a % 8) (r := (a + 7) % 8)
    (old.getLsbD j) (by decide) hj (by omega) (by omega) (by omega) (by omega),
    getLsbD_ldrDouble (by omega) _ _ hj, getLsbD_ldlDouble _ _ _ hj]

/-- Settles O29. -/
theorem unalignedLoadIdiom : Obligations.UnalignedLoadIdiom :=
  fun m a old oldD => ⟨lwrWord_lwlWord_readBE m a old, ldrDouble_ldlDouble_readBE m a oldD⟩

/-! ## Partial stores (R229 to R232) -/

/-- The bytes a mask selects. -/
theorem getLsbD_byteMask {lo hi j : Nat} (hhi : hi < 8) (hj : j < 8) : (byteMask lo hi).getLsbD j = decide (lo ≤ j ∧ j ≤ hi) := by
  have hrange : 7 - hi + j < 8 ↔ j ≤ hi := by omega
  rw [byteMask, BitVec.getLsbD_and, BitVec.getLsbD_shiftLeft, BitVec.getLsbD_ushiftRight, BitVec.getLsbD_allOnes,
    BitVec.getLsbD_allOnes]
  by_cases hlo : lo ≤ j
  · simp [hj, hlo, hrange, show j - lo < 8 by omega, Nat.not_lt.2 hlo]
  · simp [hlo, Nat.not_le.1 hlo]

/-- Of a unit that ends at `hi`, the mask leaves out the bytes before `lo`. -/
theorem getLsbD_byteMask_from {lo hi j : Nat} (hhi : hi < 8) (hj : j ≤ hi) : (byteMask lo hi).getLsbD j = decide (¬ j < lo) := by
  rw [getLsbD_byteMask hhi (by omega), decide_eq_decide]
  omega

/-- A mask from the start of its unit leaves out the bytes after `hi`. -/
theorem getLsbD_byteMask_upTo {hi j : Nat} (hhi : hi < 8) (hj : j < 8) : (byteMask 0 hi).getLsbD j = decide (¬ hi < j) := by
  rw [getLsbD_byteMask hhi hj, decide_eq_decide]
  omega

theorem extractLsb'_ushiftRight_eq {w : Nat} (x : BitVec w) (n start len : Nat) :
    (x >>> n).extractLsb' start len = x.extractLsb' (start + n) len := by
  apply BitVec.eq_of_getLsbD_eq
  intro i hi
  rw [BitVec.getLsbD_extractLsb', BitVec.getLsbD_extractLsb', BitVec.getLsbD_ushiftRight, Nat.add_right_comm, Nat.add_comm]

theorem extractLsb'_shiftLeft_eq {w : Nat} (x : BitVec w) {n start len : Nat} (hn : n ≤ start) (hw : start + len ≤ w) :
    (x <<< n).extractLsb' start len = x.extractLsb' (start - n) len := by
  apply BitVec.eq_of_getLsbD_eq
  intro i hi
  simp only [BitVec.getLsbD_extractLsb', BitVec.getLsbD_shiftLeft, show start + i < w by omega, show ¬ start + i < n by omega,
    Nat.sub_add_comm hn, decide_true, decide_false, Bool.not_false, Bool.true_and]

theorem extractLsb'_low32 (v : DWord) {start len : Nat} (h : start + len ≤ 32) :
    (low32 v).extractLsb' start len = v.extractLsb' start len := BitVec.extractLsb'_setWidth_of_le h

theorem extractLsb'_zext32 (x : Word) {start len : Nat} (h : start + len ≤ 32) :
    (zext32 x).extractLsb' start len = x.extractLsb' start len := by
  rw [← extractLsb'_low32 (zext32 x) h, low32_zext32]

section
variable (v : DWord) {k j : Nat}

theorem extractLsb'_swlValue (hk : k ≤ j) (hj : j < 4) :
    (swlValue k v).extractLsb' (8 * (3 - j)) 8 = v.extractLsb' (8 * (3 - (j - k))) 8 := by
  have hstart : 8 * (3 - j) + 8 * k = 8 * (3 - (j - k)) := by omega
  rw [swlValue, extractLsb'_zext32 _ (by omega), extractLsb'_ushiftRight_eq, hstart, extractLsb'_low32 _ (by omega)]

theorem extractLsb'_sdlValue (hk : k ≤ j) (hj : j < 8) :
    (sdlValue k v).extractLsb' (8 * (7 - j)) 8 = v.extractLsb' (8 * (7 - (j - k))) 8 := by
  have hstart : 8 * (7 - j) + 8 * k = 8 * (7 - (j - k)) := by omega
  rw [sdlValue, extractLsb'_ushiftRight_eq, hstart]

theorem extractLsb'_swrValue (hj : j ≤ k) (hk : k < 4) :
    (swrValue k v).extractLsb' (8 * (3 - j)) 8 = v.extractLsb' (8 * (k - j)) 8 := by
  have hstart : 8 * (3 - j) - 8 * (3 - k) = 8 * (k - j) := by omega
  rw [swrValue, extractLsb'_zext32 _ (by omega), extractLsb'_shiftLeft_eq _ (by omega) (by omega), hstart,
    extractLsb'_low32 _ (by omega)]

theorem extractLsb'_sdrValue (hj : j ≤ k) (hk : k < 8) :
    (sdrValue k v).extractLsb' (8 * (7 - j)) 8 = v.extractLsb' (8 * (k - j)) 8 := by
  have hstart : 8 * (7 - j) - 8 * (7 - k) = 8 * (k - j) := by omega
  rw [sdrValue, extractLsb'_shiftLeft_eq _ (by omega) (by omega), hstart]

end

/-- A masked store that reaches RAM keeps the bytes of its unit that its mask leaves out, writes those it selects, and changes nothing
outside the unit. -/
theorem maskedStore_ram {i : Instr} {s : State} {va v : DWord} {pa : Word} {w : Width} {mask : BitVec 8} (h : reachesRam s true va pa)
    (hi : exec i s = completeNext (memWriteMasked s va w v mask)) (keep : Nat → Prop) [DecidablePred keep] (byte : Nat → Byte)
    (hmask : ∀ j < w.bytes, mask.getLsbD j = decide (¬ keep j))
    (hbyte : ∀ j < w.bytes, ¬ keep j → v.extractLsb' (8 * (w.bytes - 1 - j)) 8 = byte j) :
    ∃ m : Memory, exec i s = .next (advance .next { s with mem := m }) ∧
      (∀ j < w.bytes, m.read (pa.toNat / w.bytes * w.bytes + j) =
        if keep j then s.mem.read (pa.toNat / w.bytes * w.bytes + j) else byte j) ∧
      ∀ a, (a < pa.toNat / w.bytes * w.bytes ∨ pa.toNat / w.bytes * w.bytes + w.bytes ≤ a) → m.read a = s.mem.read a := by
  refine ⟨_, ?_, fun j hj => ?_, fun a ha => Memory.read_writeBE_outside _ _ mask _ v _ ha⟩
  · rw [hi, memWriteMasked_ram h, completeNext_ok]
  · rw [Memory.read_writeBE_inside _ _ _ _ _ _ hj, hmask j hj]
    by_cases hkeep : keep j
    · simp [hkeep]
    · simp [hkeep, hbyte j hj hkeep]

section
variable (rt base : RegIdx) (o : BitVec 16) {s : State}

theorem exec_sdl (h : ops64Enabled s = true) : exec (.sdl rt o base) s = completeNext (memWriteMasked s (effAddr s base o) .dword
    (sdlValue ((effAddr s base o).toNat % 8) (readReg s rt)) (byteMask ((effAddr s base o).toNat % 8) 7)) := after64_ok h _

theorem exec_sdr (h : ops64Enabled s = true) : exec (.sdr rt o base) s = completeNext (memWriteMasked s (effAddr s base o) .dword
    (sdrValue ((effAddr s base o).toNat % 8) (readReg s rt)) (byteMask 0 ((effAddr s base o).toNat % 8))) := after64_ok h _

end

/-- Settles O28: each partial store by the bytes its mask keeps and the bytes of its shifted register. -/
theorem partialStoreResults : Obligations.PartialStoreResults := by
  intro s rt base o pa ea hea h
  obtain rfl : ea = effAddr s base o := hea
  have hk4 := Nat.mod_lt (effAddr s base o).toNat (show 4 > 0 by decide)
  have hk8 := Nat.mod_lt (effAddr s base o).toNat (show 8 > 0 by decide)
  refine ⟨fun i n hi h64 => ?left, fun i n hi h64 => ?right⟩
  all_goals simp only [List.mem_cons, List.not_mem_nil, or_false, Prod.mk.injEq] at hi
  case left =>
    rcases hi with ⟨rfl, rfl⟩ | ⟨rfl, rfl⟩
    · exact maskedStore_ram (w := .word) h rfl (fun j => j < (effAddr s base o).toNat % 4)
        (fun j => (readReg s rt).extractLsb' (8 * (4 - 1 - (j - (effAddr s base o).toNat % 4))) 8)
        (fun j hj => getLsbD_byteMask_from (by decide) (Nat.le_of_lt_succ hj))
        (fun j hj hkeep => extractLsb'_swlValue _ (Nat.le_of_not_lt hkeep) hj)
    · exact maskedStore_ram (w := .dword) h (exec_sdl rt base o (h64 rfl)) (fun j => j < (effAddr s base o).toNat % 8)
        (fun j => (readReg s rt).extractLsb' (8 * (8 - 1 - (j - (effAddr s base o).toNat % 8))) 8)
        (fun j hj => getLsbD_byteMask_from (by decide) (Nat.le_of_lt_succ hj))
        (fun j hj hkeep => extractLsb'_sdlValue _ (Nat.le_of_not_lt hkeep) hj)
  case right =>
    rcases hi with ⟨rfl, rfl⟩ | ⟨rfl, rfl⟩
    · exact maskedStore_ram (w := .word) h rfl (fun j => (effAddr s base o).toNat % 4 < j)
        (fun j => (readReg s rt).extractLsb' (8 * ((effAddr s base o).toNat % 4 - j)) 8)
        (fun j hj => getLsbD_byteMask_upTo (Nat.lt_trans hk4 (by decide)) (Nat.lt_trans hj (by decide)))
        (fun j _ hkeep => extractLsb'_swrValue _ (Nat.le_of_not_lt hkeep) hk4)
    · exact maskedStore_ram (w := .dword) h (exec_sdr rt base o (h64 rfl)) (fun j => (effAddr s base o).toNat % 8 < j)
        (fun j => (readReg s rt).extractLsb' (8 * ((effAddr s base o).toNat % 8 - j)) 8)
        (fun j hj => getLsbD_byteMask_upTo hk8 hj)
        (fun j _ hkeep => extractLsb'_sdrValue _ (Nat.le_of_not_lt hkeep) hk8)

/-! ## Load-linked and store-conditional (R233 to R237) -/

/-- A store-conditional with LLbit that reaches RAM stores its unit and gives 1. -/
theorem storeConditional_ram {s : State} {rt base : RegIdx} {o : BitVec 16} {pa : Word}
    (h : reachesRam s true (effAddr s base o) pa) (hl : s.llbit = true) (w : Width) : storeConditional w rt o base s =
      .next (advance .next (writeReg { s with
        mem := s.mem.writeBE (pa.toNat / w.bytes * w.bytes) fullMask w.bytes (w.trunc (readReg s rt)) } rt 1)) := by
  rw [storeConditional_linked rt base o hl, memWriteMasked_ram h]
  rfl

/-- Settles O31: LL and LLD as loads of the unit, SC and SCD by LLbit; without it only the translation counts. -/
theorem loadLinkedStoreConditional : Obligations.LoadLinkedStoreConditional := by
  refine fun s rt base o pa => ⟨fun h => ⟨?ll, fun h64 => ?lld⟩, fun h => ⟨fun hl => ⟨?sc, fun h64 => ?scd⟩, fun hl => ?unlinked⟩⟩
  case ll => exact loadLinked_ok (memRead_ram h .word)
  case lld => exact (after64_ok h64 _).trans (loadLinked_ok (memRead_ram h .dword))
  case sc => exact storeConditional_ram h hl .word
  case scd => exact (exec_scd rt base o h64).trans (storeConditional_ram h hl .dword)
  case unlinked =>
    obtain ⟨⟨cached, ht⟩, -⟩ := h
    exact (dataAccessExceptions s rt base o).2 hl (pa, cached) ht

end Sys2Proof.Machine
end

section
/-! PROOFS. SYSCALL, BREAK, the conditional traps, SYNC and ERET (44_system.md R239 to R254, R266), and an exception entry returned from
at once (60_exceptions.md R286, R287). -/

namespace Sys2Proof.Machine

/-! ## Conditional traps (R241) -/

theorem trapIf_eq (p : Prop) [Decidable p] (s : State) :
    trapIf (decide p) s = .next (if p then takeException .tr s else advance .next s) := by
  by_cases h : p
  · rw [decide_eq_true h, if_pos h, trapIf, if_pos rfl, raiseIn, complete_raise]
  · rw [decide_eq_false h, if_neg h, trapIf, if_neg Bool.false_ne_true, complete_ok]

/-- The sign-extended immediate has the immediate's signed value. -/
theorem toInt_simm (imm : BitVec 16) : (simm imm).toInt = imm.toInt := BitVec.toInt_signExtend_of_le (by decide)

theorem eq_simm_iff (v : DWord) (imm : BitVec 16) : v = simm imm ↔ v.toInt = imm.toInt := by
  rw [← BitVec.toInt_inj, toInt_simm]

/-- Settles O35: each conditional trap is `trapIf` at its own condition, the signed immediate ones by the immediate's value. -/
theorem systemCallsAndTraps : Obligations.SystemCallsAndTraps := by
  intro s a b imm code t
  have trap (p : Prop) [Decidable p] := trapIf_eq p s
  have signed := toInt_simm imm
  have equal := eq_simm_iff (readReg s a) imm
  refine ⟨complete_raise _ _, complete_raise _ _, complete_ok _ _, trap _, trap _, trap _, trap _, trap _, trap _, ?tgei, trap _, ?tlti,
    trap _, ?teqi, ?tnei⟩
  case tgei => rw [← signed]; exact trap _
  case tlti => rw [← signed]; exact trap _
  case teqi => simp only [← equal]; exact trap _
  case tnei => simp only [ne_eq, ← equal]; exact trap _

/-! ## ERET (R266) -/

section
variable {s : State}

theorem exec_eret (hu : cp0Usable s = true) : exec .eret s = .next (exceptionReturn s) := by
  simp only [exec, execEret, requireCp0_ok hu]
  rfl

theorem putField_bit_clear {w : Nat} (lo : Nat) (v : BitVec w) :
    putField lo (bit false) v = v &&& ~~~((BitVec.allOnes 1).setWidth w <<< lo) := by
  simp [putField, bit]

theorem exceptionReturn_error (h : statusERL s = true) : exceptionReturn s = { s with
    cp0 := { s.cp0 with status := s.cp0.status &&& 0xFFFFFFFB }, llbit := false, pc := s.cp0.errorEpc,
    nextPc := s.cp0.errorEpc + 4, inDelaySlot := false } := by
  simp only [exceptionReturn, setStatusBit, returnAddress, h, if_true, putField_bit_clear]
  rfl

theorem exceptionReturn_exception (h : statusERL s = false) : exceptionReturn s = { s with
    cp0 := { s.cp0 with status := s.cp0.status &&& 0xFFFFFFFD }, llbit := false, pc := s.cp0.epc,
    nextPc := s.cp0.epc + 4, inDelaySlot := false } := by
  simp only [exceptionReturn, setStatusBit, returnAddress, h, Bool.false_eq_true, if_false, putField_bit_clear]
  rfl

end

/-- Settles O48: where CP0 is usable ERET is the return, by ERL. -/
theorem eretResult : Obligations.EretResult := fun _ hu =>
  ⟨fun h => (exec_eret hu).trans (congrArg _ (exceptionReturn_error h)),
    fun h => (exec_eret hu).trans (congrArg _ (exceptionReturn_exception h))⟩

/-! ## What exception entry leaves in Status and EPC (60_exceptions.md R286, R290) -/

section
variable {s : State}

theorem recordAddr_status (e : Exc) (c : Cp0) : (recordAddr e c).status = c.status := by cases e <;> rfl

theorem recordAddr_epc (e : Exc) (c : Cp0) : (recordAddr e c).epc = c.epc := by cases e <;> rfl

theorem saveRestart_status (s : State) : (saveRestart s).status = s.cp0.status := by unfold saveRestart; split <;> rfl

theorem saveRestart_epc (s : State) : (saveRestart s).epc = if s.inDelaySlot then s.pc - 4 else s.pc := by
  unfold saveRestart; split <;> rfl

theorem exceptionEntry_status (e : Exc) (s : State) : (exceptionEntry e s).cp0.status = putField 1 (1 : BitVec 1) s.cp0.status := by
  simp only [exceptionEntry, recordAddr_status]
  split
  · rfl
  · rw [saveRestart_status]

/-- Outside an exception EPC receives the instruction, or the branch before it in a delay slot. -/
theorem exceptionEntry_epc (h : statusEXL s = false) (e : Exc) :
    (exceptionEntry e s).cp0.epc = if s.inDelaySlot then s.pc - 4 else s.pc := by
  simp only [exceptionEntry, recordAddr_epc, h, Bool.false_eq_true, if_false, saveRestart_epc]

/-- Entry sets EXL and changes no other bit of Status. -/
theorem statusBit_exceptionEntry (e : Exc) (s : State) {n : Nat} (hn : n < 32) :
    statusBit (exceptionEntry e s) n = if n = 1 then true else statusBit s n := by
  unfold statusBit
  rw [exceptionEntry_status, getLsbD_putField _ _ _ hn]
  by_cases h : n = 1
  · subst h; rfl
  · rw [if_neg (by omega), if_neg h]

theorem cp0Usable_exceptionEntry (e : Exc) (s : State) : cp0Usable (exceptionEntry e s) = true := by
  have hexl : statusEXL (exceptionEntry e s) = true := statusBit_exceptionEntry e s (by decide)
  simp [cp0Usable, currentMode, hexl]

/-- EXL set at the entry and cleared at the return is as it was. -/
theorem status_set_clear_exl {v : Word} (h : v.getLsbD 1 = false) : putField 1 (1 : BitVec 1) v &&& 0xFFFFFFFD = v := by
  have hmask : ∀ j < 32, (0xFFFFFFFD : Word).getLsbD j = decide (j ≠ 1) := by decide
  apply BitVec.eq_of_getLsbD_eq
  intro j hj
  rw [BitVec.getLsbD_and, getLsbD_putField _ _ _ hj, hmask j hj]
  by_cases hj1 : j = 1
  · subst hj1; rw [h]; rfl
  · rw [if_neg (by omega), decide_eq_true hj1, Bool.and_true]

/-- The mode is a function of Status. -/
theorem currentMode_of_status {t : State} (h : t.cp0.status = s.cp0.status) : currentMode t = currentMode s := by
  have hbit : statusBit t = statusBit s := congrArg BitVec.getLsbD h
  have hksu : statusKSU t = statusKSU s := congrArg (BitVec.extractLsb' 3 2) h
  unfold currentMode statusEXL statusERL
  rw [hbit, hksu]

end

/-- Settles O49: entry makes CP0 usable, saves the restart address and sets EXL; ERET goes there and clears EXL. -/
theorem returnAfterEntry : Obligations.ReturnAfterEntry := by
  intro e s hexl herl
  have hback := exceptionReturn_exception ((statusBit_exceptionEntry e s (by decide)).trans herl)
  have hstatus : (exceptionReturn (exceptionEntry e s)).cp0.status = s.cp0.status := by
    rw [hback, exceptionEntry_status]
    exact status_set_clear_exl hexl
  have hpc : (exceptionReturn (exceptionEntry e s)).pc = if s.inDelaySlot then s.pc - 4 else s.pc := by
    rw [hback, exceptionEntry_epc hexl]
  exact ⟨exceptionReturn (exceptionEntry e s), exec_eret (cp0Usable_exceptionEntry e s), hpc, hstatus, currentMode_of_status hstatus,
    exceptionReturn_llbit _, by rw [exceptionReturn_regs, exceptionEntry_regs], by rw [exceptionReturn_mem, exceptionEntry_mem]⟩

end Sys2Proof.Machine
end

section
/-! PROOFS. The writes of CP0 registers by MTC0 and DMTC0 (44_system.md R256, R259, R260): what CP0Write does to each register, and the
value each move gives it. -/

namespace Sys2Proof.Machine

@[simp] theorem low32_sext32 (w : Word) : low32 (sext32 w) = w := by
  apply BitVec.eq_of_getLsbD_eq
  intro j hj
  rw [getLsbD_low32 _ hj, sext32, BitVec.getLsbD_signExtend, if_pos hj, decide_eq_true (by omega), Bool.true_and]

section
variable {s : State} {v : DWord}

/-! ## What CP0Write does (R256) -/

theorem low32_extractLsb' {start len : Nat} (h : start + len ≤ 32) (v : DWord) :
    (low32 v).extractLsb' start len = v.extractLsb' start len := by
  apply BitVec.eq_of_getLsbD_eq
  intro j hj
  rw [BitVec.getLsbD_extractLsb', BitVec.getLsbD_extractLsb', getLsbD_low32 v (by omega)]

theorem cp0Write_status (h : (low32 v).extractLsb' 3 2 ≠ 3) :
    cp0Write s 12 v = .ok { s with cp0 := { s.cp0 with status := low32 v &&& 0xFF57FFFF } } := by
  rw [low32_extractLsb' (by decide)] at h
  exact if_neg h

theorem cp0Write_status_refused (h : (low32 v).extractLsb' 3 2 = 3) : cp0Write s 12 v = .error (.refuse .unpredictableMode) := by
  rw [low32_extractLsb' (by decide)] at h
  exact if_pos h

/-- A field put into a word is the word's bits outside the field's mask and the bits of the field under it. -/
theorem putField_extractLsb'_eq {m k : Word} {lo n : Nat} (hm : ∀ j < 32, m.getLsbD j = decide (lo ≤ j ∧ j < lo + n))
    (hk : ∀ j < 32, k.getLsbD j = !m.getLsbD j) (v old : Word) :
    putField lo (v.extractLsb' lo n) old = (old &&& k) ||| (v &&& m) := by
  apply BitVec.eq_of_getLsbD_eq
  intro j hj
  rw [getLsbD_putField _ _ _ hj, BitVec.getLsbD_or, BitVec.getLsbD_and, BitVec.getLsbD_and, hk j hj, hm j hj]
  by_cases h : lo ≤ j ∧ j < lo + n
  · rw [if_pos h, decide_eq_true h, BitVec.getLsbD_extractLsb', Nat.add_sub_cancel' h.1, decide_eq_true (by omega : j - lo < n)]
    simp
  · rw [if_neg h, decide_eq_false h]
    simp

theorem cp0Write_cause : cp0Write s 13 v = .ok { s with cp0 := { s.cp0 with
    cause := (s.cp0.cause &&& 0xFFFFFCFF) ||| (low32 v &&& 0x300) } } := by
  rw [← putField_extractLsb'_eq (lo := 8) (n := 2) (by decide) (by decide), low32_extractLsb' (by decide)]
  rfl

theorem cp0Write_config (h : (low32 v).getLsbD 15 = true) : cp0Write s 16 v = .ok { s with cp0 := { s.cp0 with
    config := (s.cp0.config &&& 0xF0FF7FF0) ||| (low32 v &&& 0x0F00800F) } } := by
  rw [getLsbD_low32 v (by decide)] at h
  exact if_pos h

theorem cp0Write_config_refused (h : (low32 v).getLsbD 15 = false) : cp0Write s 16 v = .error (.refuse .littleEndianConfig) := by
  rw [getLsbD_low32 v (by decide)] at h
  exact if_neg (Bool.eq_false_iff.1 h)

/-- The registers with no writable bits: BadVAddr, Random, PRId, CacheErr, TagHi and the reserved ones. -/
theorem cp0Write_ignored {n : RegIdx} (h : n ∈ ([8, 7, 21, 22, 23, 24, 25, 31, 1, 15, 27, 29] : List RegIdx)) :
    cp0Write s n v = .ok s := by
  fin_cases h <;> rfl

/-! ## The moves to CP0 (R259, R260) -/

theorem exec_mtc0 (hu : cp0Usable s = true) (rt n : RegIdx) :
    exec (.mtc0 rt n) s = completeNext (cp0Write s n (sext32 (low32 (readReg s rt)))) :=
  congrArg completeNext (requireCp0_bind hu _)

theorem exec_dmtc0 (hu : cp0Usable s = true) (h64 : ops64Enabled s = true) (rt : RegIdx) {n : RegIdx}
    (hn : (cp0Wide n || cp0Reserved n) = true) : exec (.dmtc0 rt n) s = completeNext (cp0Write s n (readReg s rt)) := by
  simp only [exec, execDmtc0, requireCp0_ok hu, require64_ok h64, hn, if_true]
  rfl

theorem exec_dmtc0_refused (hu : cp0Usable s = true) (h64 : ops64Enabled s = true) (rt : RegIdx) {n : RegIdx}
    (hn : (cp0Wide n || cp0Reserved n) = false) : exec (.dmtc0 rt n) s = .refused .dmtc0To32BitRegister := by
  simp only [exec, execDmtc0, requireCp0_ok hu, require64_ok h64, hn]
  rfl

end

/-- Settles O37, register by register: MTC0 of a 64-bit register and DMTC0 are one write of `v`, MTC0 of a 32-bit register is a write
whose low word is `w`. -/
theorem cp0Writes : Obligations.Cp0Writes := by
  refine fun s rt hu => ⟨?wide, ?narrow, ?refused⟩
  case wide =>
    intro v i hi
    have move {n : RegIdx} (hn : (cp0Wide n || cp0Reserved n) = true) : exec (i n) s = completeNext (cp0Write s n v) := by
      rcases hi with ⟨rfl, rfl⟩ | ⟨rfl, rfl, h64⟩
      · exact exec_mtc0 hu rt n
      · exact exec_dmtc0 hu h64 rt hn
    refine ⟨move rfl, move rfl, move rfl, move rfl, move rfl, move rfl, move rfl, fun n hn => ?_⟩
    have hknown : (cp0Wide n || cp0Reserved n) = true := by fin_cases hn <;> rfl
    rw [move hknown, cp0Write_ignored (List.mem_append_left [1, 15, 27, 29] hn), completeNext_ok]
  case narrow =>
    intro w hw
    obtain ⟨v, hv, move⟩ : ∃ v, low32 v = w ∧ ∀ n, exec (.mtc0 rt n) s = completeNext (cp0Write s n v) :=
      ⟨sext32 w, low32_sext32 w, fun n => by rw [hw]; exact exec_mtc0 hu rt n⟩
    subst hv
    refine ⟨move 0, move 5, move 6, move 9, move 11, fun h => ?status, fun h => ?mode, ?cause, fun h => ?config, fun h => ?endian,
      move 17, move 18, move 19, move 26, move 28, fun n hn => ?ignored⟩
    case status => rw [move, cp0Write_status h, completeNext_ok]
    case mode => rw [move, cp0Write_status_refused h, completeNext_refuse]
    case cause => rw [move, cp0Write_cause, completeNext_ok]
    case config => rw [move, cp0Write_config h, completeNext_ok]
    case endian => rw [move, cp0Write_config_refused h, completeNext_refuse]
    case ignored => rw [move, cp0Write_ignored (List.mem_append_right [8, 7, 21, 22, 23, 24, 25, 31] hn), completeNext_ok]
  case refused =>
    intro h64 n hn
    exact exec_dmtc0_refused hu h64 rt (by fin_cases hn <;> rfl)

end Sys2Proof.Machine
end

section
/-! PROOFS. TLBWR and TLBP (44_system.md R264, R265). -/

namespace Sys2Proof.Machine

section
variable {s : State}

/-! ## TLBWR (R264) -/

/-- TLBWR with Wired in range is the write of the entry drawn. -/
theorem exec_tlbwr (hu : cp0Usable s = true) (h : wiredIndex s < 32) : exec .tlbwr s =
    completeNext (tlbWrite (drawFrom (wiredIndex s) s).2 ⟨(drawFrom (wiredIndex s) s).1, drawFrom_lt h s⟩) :=
  congrArg completeNext ((requireCp0_bind hu _).trans (dif_pos h))

theorem exec_tlbwr_refused (hu : cp0Usable s = true) (h : 32 ≤ wiredIndex s) : exec .tlbwr s = .refused .wiredOutOfRange :=
  (congrArg completeNext ((requireCp0_bind hu _).trans (dif_neg (Nat.not_lt.2 h)))).trans (completeNext_refuse .wiredOutOfRange)

theorem tlbWrite_legal (h : legalMask (maskField s.cp0) = true) (i : Fin 32) :
    tlbWrite s i = .ok { s with tlb := s.tlb.set i.val (entryOfCp0 s.cp0) i.isLt } := if_pos h

theorem tlbWrite_illegal (h : legalMask (maskField s.cp0) = false) (i : Fin 32) :
    tlbWrite s i = .error (.refuse .illegalPageMask) := if_neg (Bool.eq_false_iff.1 h)

theorem le_drawFrom (lo : Nat) (s : State) : lo ≤ (drawFrom lo s).1 := Nat.le_add_right _ _

/-! ## TLBP (R265) -/

theorem exec_tlbp (hu : cp0Usable s = true) : exec .tlbp s = completeNext (tlbProbe s) :=
  congrArg completeNext (requireCp0_bind hu _)

theorem tlbProbe_found {i : Fin 32} (h : tlbHits s s.cp0.entryHi = [i]) :
    tlbProbe s = .ok { s with cp0 := { s.cp0 with index := BitVec.ofNat 32 i.val } } := by
  simp only [tlbProbe, h]

theorem tlbProbe_missed (h : tlbHits s s.cp0.entryHi = []) : tlbProbe s = .ok { s with
    draws := s.draws + 1, cp0 := { s.cp0 with index := 0x80000000 ||| ((draw s).1.setWidth 6).setWidth 32 } } := by
  simp only [tlbProbe, h]
  rfl

/-- Two matching entries refuse the probe. -/
theorem tlbProbe_multiple {i j : Fin 32} (hne : i ≠ j) (hi : i ∈ tlbHits s s.cp0.entryHi) (hj : j ∈ tlbHits s s.cp0.entryHi) :
    tlbProbe s = .error (.refuse .tlbMultipleMatch) := by
  unfold tlbProbe
  split
  · next h => simp [h] at hi
  · next k h =>
    rw [h, List.mem_singleton] at hi hj
    exact absurd (hi.trans hj.symm) hne
  · rfl

end

/-- Settles O41: TLBWR is the write of the entry drawn once Wired is in range, TLBP the probe by the number of matches. -/
theorem tlbRandomAndProbe : Obligations.TlbRandomAndProbe := by
  refine fun s hu => ⟨fun hm hw => ?written, fun hw => exec_tlbwr_refused hu hw, fun hm hw => ?illegal, fun i h => ?found,
    fun h => ⟨(draw s).1.setWidth 6, ?missed⟩, fun i j hne hi hj => ?multiple⟩
  case written =>
    have hlt : wiredIndex s < 32 := Nat.lt_succ_of_le hw
    refine ⟨(drawFrom (wiredIndex s) s).1, drawFrom_lt hlt s, le_drawFrom _ s, ?_⟩
    rw [exec_tlbwr hu hlt, tlbWrite_legal (by exact hm), completeNext_ok]
    rfl
  case illegal => rw [exec_tlbwr hu (Nat.lt_succ_of_le hw), tlbWrite_illegal (by exact hm), completeNext_refuse]
  case found => rw [exec_tlbp hu, tlbProbe_found h, completeNext_ok]
  case missed => rw [exec_tlbp hu, tlbProbe_missed h, completeNext_ok]
  case multiple => rw [exec_tlbp hu, tlbProbe_multiple hne hi hj, completeNext_refuse]

end Sys2Proof.Machine
end

section
/-! PROOFS. The coprocessor 1 and 2 words (45_coprocessor.md R269 to R279): the check of Status.CUz, and that it is all each of them does. -/

namespace Sys2Proof.Machine

section
variable {s : State}

/-! ## The check of Status.CUz (R269) -/

theorem coprocessor1_unusable (h : statusCU s 1 = false) : coprocessor1 s = .next (takeException (.cpU 1) s) :=
  (if_neg (Bool.eq_false_iff.1 h)).trans (complete_raise (.cpU 1) s)

theorem coprocessor1_refused (h : statusCU s 1 = true) : coprocessor1 s = .refused .fpuNotModelled :=
  (if_pos h).trans (complete_refuse .fpuNotModelled)

theorem coprocessor2_unusable (h : statusCU s 2 = false) : coprocessor2 s = .next (takeException (.cpU 2) s) :=
  (if_neg (Bool.eq_false_iff.1 h)).trans (complete_raise (.cpU 2) s)

theorem coprocessor2_refused (h : statusCU s 2 = true) : coprocessor2 s = .refused .noCoprocessor2 :=
  (if_pos h).trans (complete_refuse .noCoprocessor2)

end

/-! ## The instructions (R270 to R279) -/

/-- No coprocessor 1 instruction reads an operand or forms an address: each is the check. -/
theorem exec_eq_coprocessor1 (s : State) (b : BitVec 26) (r base : RegIdx) (o : BitVec 16) :
    ∀ i ∈ [Instr.cop1 b, .lwc1 r o base, .ldc1 r o base, .swc1 r o base, .sdc1 r o base], exec i s = coprocessor1 s := by
  simp only [List.forall_mem_cons]
  exact ⟨rfl, rfl, rfl, rfl, rfl, List.forall_mem_nil _⟩

/-- As for coprocessor 1. -/
theorem exec_eq_coprocessor2 (s : State) (b : BitVec 26) (r base : RegIdx) (o : BitVec 16) :
    ∀ i ∈ [Instr.cop2 b, .lwc2 r o base, .ldc2 r o base, .swc2 r o base, .sdc2 r o base], exec i s = coprocessor2 s := by
  simp only [List.forall_mem_cons]
  exact ⟨rfl, rfl, rfl, rfl, rfl, List.forall_mem_nil _⟩

/-- Settles O39: each word is the check of its coprocessor, which raises or refuses by Status.CUz alone. -/
theorem coprocessorsUnusable : Obligations.CoprocessorsUnusable := by
  refine fun s b r base o => ⟨fun i hi => ?cop1, fun i hi => ?cop2⟩
  case cop1 =>
    rw [exec_eq_coprocessor1 s b r base o i hi]
    exact ⟨coprocessor1_unusable, coprocessor1_refused⟩
  case cop2 =>
    rw [exec_eq_coprocessor2 s b r base o i hi]
    exact ⟨coprocessor2_unusable, coprocessor2_refused⟩

end Sys2Proof.Machine
end

section
/-! PROOFS. What exception entry writes (60_exceptions.md R282, R286 to R290): the vectors, the CP0 registers an entry changes and those it
leaves, and that the exceptions instructions take are precise (R280). -/

namespace Sys2Proof.Machine

/-- Settles O44: BEV gives the base; a TLB Refill with EXL = 0 goes to an offset of its own, by Addr64. -/
theorem exceptionVectors : Obligations.ExceptionVectors := by
  unfold Obligations.ExceptionVectors
  decide

/-! ## The CP0 registers an entry writes (R286, R289, R290) -/

section
variable {e : Exc} {va : DWord} (s : State) (c : Cp0)

theorem isRefill_iff : e.isRefill = true ↔ ∃ store va, e = .tlbRefill store va := by
  cases e with
  | tlbRefill store va => exact ⟨fun _ => ⟨store, va, rfl⟩, fun _ => rfl⟩
  | _ => simp [Exc.isRefill]

/-- A TLB exception records its address in BadVAddr and in the TLB registers. -/
theorem recordAddr_of_tlbAddr (h : e.tlbAddr = some va) : recordAddr e c = recordTlbAddr va { c with badVAddr := va } := by
  cases e with
  | tlbRefill | tlbInvalid | tlbModified => cases h; rfl
  | _ => cases h

/-- Another exception writes BadVAddr at most. -/
theorem recordAddr_of_no_tlbAddr (h : e.tlbAddr = none) :
    recordAddr e c = { c with badVAddr := e.badVAddr.getD c.badVAddr } := by
  cases e with
  | tlbRefill | tlbInvalid | tlbModified => cases h
  | _ => rfl

theorem recordAddr_badVAddr (e : Exc) : (recordAddr e c).badVAddr = e.badVAddr.getD c.badVAddr := by cases e <;> rfl

/-- Recording an address writes BadVAddr, Context, XContext and EntryHi only. -/
theorem recordAddr_shape (e : Exc) :
    ∃ b x y z, recordAddr e c = { c with badVAddr := b, context := x, xContext := y, entryHi := z } := by
  cases h : e.tlbAddr with
  | some va => rw [recordAddr_of_tlbAddr c h]; exact ⟨_, _, _, _, rfl⟩
  | none => rw [recordAddr_of_no_tlbAddr c h]; exact ⟨_, _, _, _, rfl⟩

/-- The CP0 registers an entry records the address in: EPC is saved, and Cause has its BD, CE and ExcCode. -/
def entryCauseCp0 (e : Exc) : Cp0 :=
  { entryCp0 s with cause := putField 28 (causeCE e s).1 (putField 2 e.name.code (entryCp0 s).cause) }

theorem entryCauseCp0_shape (e : Exc) : ∃ a x, entryCauseCp0 s e = { s.cp0 with epc := a, cause := x } := by
  unfold entryCauseCp0 entryCp0 saveRestart
  split_ifs <;> exact ⟨_, _, rfl⟩

theorem exceptionEntry_cp0 (e : Exc) : (exceptionEntry e s).cp0 =
    { recordAddr e (entryCauseCp0 s e) with status := (exceptionEntry e s).cp0.status } := rfl

theorem exceptionEntry_badVAddr (e : Exc) : (exceptionEntry e s).cp0.badVAddr = e.badVAddr.getD s.cp0.badVAddr := by
  obtain ⟨a, x, h⟩ := entryCauseCp0_shape s e
  rw [exceptionEntry_cp0, recordAddr_badVAddr, h]

/-- An entry writes Status, Cause, EPC, BadVAddr, Context, XContext and EntryHi only. -/
theorem exceptionEntry_cp0_frame (e : Exc) : ∃ st x a b y z w, (exceptionEntry e s).cp0 =
    { s.cp0 with status := st, cause := x, epc := a, badVAddr := b, context := y, xContext := z, entryHi := w } := by
  obtain ⟨a, x, hc⟩ := entryCauseCp0_shape s e
  obtain ⟨b, y, z, w, hr⟩ := recordAddr_shape (entryCauseCp0 s e) e
  rw [exceptionEntry_cp0, hr, hc]
  exact ⟨_, _, _, _, _, _, _, rfl⟩

theorem putField_bit_set {w : Nat} (lo : Nat) (v : BitVec w) :
    putField lo (bit true) v = v ||| (BitVec.allOnes 1).setWidth w <<< lo := by
  apply BitVec.eq_of_getLsbD_eq
  intro j hj
  rw [putField, show bit true = BitVec.allOnes 1 from rfl, BitVec.getLsbD_or, BitVec.getLsbD_and, BitVec.getLsbD_or,
    BitVec.getLsbD_not]
  cases ((BitVec.allOnes 1).setWidth w <<< lo).getLsbD j <;> simp [hj]

theorem exceptionEntry_status_or (e : Exc) : (exceptionEntry e s).cp0.status = s.cp0.status ||| 2 :=
  (exceptionEntry_status e s).trans (putField_bit_set 1 _)

theorem currentMode_of_exl {t : State} (h : statusEXL t = true) : currentMode t = .kernel := by simp [currentMode, h]

theorem currentMode_exceptionEntry (e : Exc) : currentMode (exceptionEntry e s) = .kernel :=
  currentMode_of_exl (takeException_exl e s)

/-- CE of a Coprocessor Unusable is the coprocessor. -/
theorem exceptionEntry_ce (ce : BitVec 2) : (exceptionEntry (.cpU ce) s).cp0.cause.extractLsb' 28 2 = ce :=
  (congrArg _ (takeException_cause (.cpU ce) s)).trans (extractLsb'_putField _ _ _ (by decide))

/-- The software interrupt bits of Cause are kept. -/
theorem exceptionEntry_ip (e : Exc) : (exceptionEntry e s).cp0.cause.extractLsb' 8 2 = s.cp0.cause.extractLsb' 8 2 := by
  have hrestart : (entryCp0 s).cause.extractLsb' 8 2 = s.cp0.cause.extractLsb' 8 2 := by
    unfold entryCp0 saveRestart
    split_ifs
    · rfl
    all_goals exact extractLsb'_putField_of_disjoint _ _ _ _ _ (.inr (by decide)) (by decide)
  rw [← takeException_cp0, takeException_cause, extractLsb'_putField_of_disjoint _ _ _ _ _ (.inr (by decide)) (by decide),
    extractLsb'_putField_of_disjoint _ _ _ _ _ (.inl (by decide)) (by decide), hrestart]

end

/-! ## The codes and the addresses, by exception (R282, R289) -/

/-- The exceptions that carry no address and no coprocessor. -/
theorem code_of_no_address : ∀ p ∈ ([(.int, 0), (.sys, 8), (.bp, 9), (.ri, 10), (.ov, 12), (.tr, 13), (.watch, 23)] :
    List (Exc × BitVec 5)), p.1.name.code = p.2 ∧ p.1.badVAddr = none := by decide

/-- The exceptions that carry an address. -/
theorem code_of_address (va : DWord) : ∀ p ∈ ([(.tlbModified va, 1), (.tlbRefill false va, 2), (.tlbInvalid false va, 2),
    (.tlbRefill true va, 3), (.tlbInvalid true va, 3), (.addressError false va, 4), (.addressError true va, 5)] :
    List (Exc × BitVec 5)), p.1.name.code = p.2 ∧ p.1.badVAddr = some va := by
  simp only [List.forall_mem_cons]
  exact ⟨⟨rfl, rfl⟩, ⟨rfl, rfl⟩, ⟨rfl, rfl⟩, ⟨rfl, rfl⟩, ⟨rfl, rfl⟩, ⟨rfl, rfl⟩, ⟨rfl, rfl⟩, List.forall_mem_nil _⟩

/-- Settles O45: EPC and BD are those of `entryCp0`, the rest follows from the exception's name, address and kind. -/
theorem exceptionEntryWrites : Obligations.ExceptionEntryWrites := by
  rintro e s _ rfl
  have hepc : (exceptionEntry e s).cp0.epc = (entryCp0 s).epc := takeException_epc e s
  have hbd : (exceptionEntry e s).cp0.cause.getLsbD 31 = (entryCp0 s).cause.getLsbD 31 := takeException_bd e s
  have hcode : (exceptionEntry e s).cp0.cause.extractLsb' 2 5 = e.name.code := takeException_code e s
  have hbad := exceptionEntry_badVAddr s e
  refine ⟨fun hexl hds => ?outside, fun hexl hds => ?inSlot, fun hexl => ?nested, hcode, fun ce he => ?ce, fun n hn => ?plain,
    fun ce he => ?cpU, fun va n hn => ?address, exceptionEntry_ip s e, exceptionEntry_status_or s e, hbad, fun refill hr => ?vector,
    rfl, rfl, currentMode_exceptionEntry s e, exceptionEntry_regs e s, exceptionEntry_hi e s, exceptionEntry_lo e s,
    exceptionEntry_llbit e s, exceptionEntry_mem e s, exceptionEntry_tlb e s, exceptionEntry_mi e s, exceptionEntry_vi e s, exceptionEntry_timer e s,
    exceptionEntry_cycles e s⟩
  case outside | inSlot => rw [hepc, hbd]; simpa [hds] using entryCp0_restart hexl
  case nested => rw [hepc, hbd, entryCp0_exl hexl]; exact ⟨rfl, rfl⟩
  case ce => subst he; exact exceptionEntry_ce s ce
  case plain =>
    obtain ⟨hn', ha⟩ := code_of_no_address _ hn
    exact ⟨hcode.trans hn', by rw [hbad, ha]; rfl⟩
  case cpU => subst he; exact ⟨hcode, hbad⟩
  case address =>
    obtain ⟨hn', ha⟩ := code_of_address va _ hn
    exact ⟨hcode.trans hn', by rw [hbad, ha]; rfl⟩
  case vector =>
    rw [Bool.eq_iff_iff.2 (hr.trans isRefill_iff.symm)]
    exact takeException_vector e s

/-! ## The TLB registers (R290) -/

section
variable {e : Exc} {va : DWord}

theorem exceptionEntry_tlbRegisters (s : State) (h : e.tlbAddr = some va) :
    (exceptionEntry e s).cp0.context = putField 4 (va.extractLsb' 13 19) s.cp0.context ∧
    (exceptionEntry e s).cp0.xContext = putField 31 (va.extractLsb' 62 2) (putField 4 (va.extractLsb' 13 27) s.cp0.xContext) ∧
    (exceptionEntry e s).cp0.entryHi = putField 62 (va.extractLsb' 62 2) (putField 13 (va.extractLsb' 13 27) s.cp0.entryHi) := by
  obtain ⟨a, x, hc⟩ := entryCauseCp0_shape s e
  rw [exceptionEntry_cp0, recordAddr_of_tlbAddr _ h, hc]
  exact ⟨rfl, rfl, rfl⟩

theorem exceptionEntry_tlbRegisters_kept (s : State) (h : e.tlbAddr = none) :
    (exceptionEntry e s).cp0.context = s.cp0.context ∧ (exceptionEntry e s).cp0.xContext = s.cp0.xContext ∧
    (exceptionEntry e s).cp0.entryHi = s.cp0.entryHi := by
  obtain ⟨a, x, hc⟩ := entryCauseCp0_shape s e
  rw [exceptionEntry_cp0, recordAddr_of_no_tlbAddr _ h, hc]
  exact ⟨rfl, rfl, rfl⟩

/-- Two fields put one above the other: each reads as put, and what lies outside them is kept. -/
theorem putField_putField_fields {w n m lo hi : Nat} (x : BitVec n) (y : BitVec m) (v : BitVec w) (hlo : lo + n ≤ hi)
    (hhi : hi + m ≤ w) :
    (putField hi y (putField lo x v)).extractLsb' lo n = x ∧ (putField hi y (putField lo x v)).extractLsb' hi m = y ∧
    ∀ start len, start + len ≤ w → start + len ≤ lo ∨ hi + m ≤ start →
      (putField hi y (putField lo x v)).extractLsb' start len = v.extractLsb' start len := by
  refine ⟨?_, extractLsb'_putField _ _ _ hhi, fun start len hw h => ?_⟩
  · rw [extractLsb'_putField_of_disjoint _ _ _ _ _ (.inr hlo) (by omega), extractLsb'_putField _ _ _ (by omega)]
  · rw [extractLsb'_putField_of_disjoint _ _ _ _ _ (by omega) hw, extractLsb'_putField_of_disjoint _ _ _ _ _ (by omega) hw]

end

/-- Settles O46: the registers of a TLB exception are fields put into the old ones. -/
theorem tlbExceptionsRecord : Obligations.TlbExceptionsRecord := by
  rintro s va store e _ rfl
  refine ⟨fun he => ?tlb, fun he => exceptionEntry_tlbRegisters_kept s (by subst he; rfl)⟩
  case tlb =>
    have ha : e.tlbAddr = some va := by rcases he with rfl | rfl | rfl <;> rfl
    obtain ⟨hcontext, hxContext, hentryHi⟩ := exceptionEntry_tlbRegisters s ha
    obtain ⟨hxVpn, hxR, hxKept⟩ := putField_putField_fields (va.extractLsb' 13 27) (va.extractLsb' 62 2) s.cp0.xContext
      (show 4 + 27 ≤ 31 by decide) (by decide)
    obtain ⟨hVpn, hR, hKept⟩ := putField_putField_fields (va.extractLsb' 13 27) (va.extractLsb' 62 2) s.cp0.entryHi
      (show 13 + 27 ≤ 62 by decide) (by decide)
    rw [hcontext, hxContext, hentryHi]
    exact ⟨extractLsb'_putField _ _ _ (by decide), extractLsb'_putField_of_disjoint _ _ _ _ _ (.inl (by decide)) (by decide), hxVpn, hxR,
      hxKept _ _ (by decide) (.inr (by decide)), hR, hVpn, hKept _ _ (by decide) (.inl (by decide))⟩

/-! ## Precise exceptions (R280) -/

/-- An instruction that reports an exception has taken it in the state it began in, but for draws. -/
theorem exec_faulted {i : Instr} {s t : State} (hs : s.stepFault = none) (h : exec i s = .next t) (ht : t.stepFault ≠ none) :
    ∃ e d, t = takeException e { s with draws := d } := by
  rcases exec_next h with ⟨f, u, he, rfl⟩ | ht'
  · rw [advance_stepFault, he.keeps.stepFault] at ht
    exact absurd hs ht
  · exact ht'

theorem exceptionVector_mem (refill exl bev a64 : Bool) : exceptionVector refill exl bev a64 ∈
    ([0xFFFFFFFF80000000, 0xFFFFFFFF80000080, 0xFFFFFFFF80000180, 0xFFFFFFFFBFC00200, 0xFFFFFFFFBFC00280,
      0xFFFFFFFFBFC00380] : List DWord) := by
  revert refill exl bev a64
  decide

/-- Settles O47: an instruction that reports an exception has done nothing but enter it. -/
theorem exceptionsArePrecise : Obligations.ExceptionsArePrecise := by
  intro i s t hs h ht
  obtain ⟨e, d, rfl⟩ := exec_faulted hs h ht
  refine ⟨takeException_regs _ _, takeException_hi _ _, takeException_lo _ _, takeException_llbit _ _, takeException_mem _ _,
    takeException_tlb _ _, takeException_mi _ _, takeException_vi _ _, takeException_timer _ _, takeException_cache _ _,
    takeException_extActive _ _, takeException_cycles _ _, ?cp0, exceptionEntry_status_or { s with draws := d } e,
    currentMode_exceptionEntry { s with draws := d } e, ?pc, rfl, rfl⟩
  case cp0 =>
    obtain ⟨st, x, a, b, y, z, w, hc⟩ := exceptionEntry_cp0_frame { s with draws := d } e
    rw [takeException_cp0, hc]
  case pc =>
    rw [takeException_vector]
    exact exceptionVector_mem _ _ _ _

end Sys2Proof.Machine
end

section
/-! PROOFS. What instructions cannot change outside kernel mode with Status.CU0 = 0 (60_exceptions.md R294 to R296), and when the interrupt
check takes an interrupt (R298, R299). -/

namespace Sys2Proof.Machine

/-! ## Instructions where CP0 is not usable (R295, R296) -/

section
variable {i : Instr} {f : Flow} {s t u : State}

theorem cp0Usable_eq_false (hm : currentMode s ≠ .kernel) (hc : statusCU s 0 = false) : cp0Usable s = false := by
  simp [cp0Usable, hm, hc]

/-- The TLB, the timer and every CP0 register other than LLAddr are the same in two states. -/
structure SameSystem (s u : State) : Prop where
  tlb : u.tlb = s.tlb
  timer : u.timer = s.timer
  cp0 : u.cp0 = { s.cp0 with llAddr := u.cp0.llAddr }

theorem SameSystem.refl : SameSystem s s := ⟨rfl, rfl, rfl⟩

theorem SameSystem.writeReg (h : SameSystem s u) (r : RegIdx) (v : DWord) : SameSystem s (writeReg u r v) :=
  ⟨by rw [writeReg_tlb, h.tlb], by rw [writeReg_timer, h.timer], by rw [writeReg_cp0]; exact h.cp0⟩

theorem SameSystem.advance (h : SameSystem s u) (f : Flow) : SameSystem s (advance f u) :=
  ⟨by rw [advance_tlb, h.tlb], by rw [advance_timer, h.timer], by rw [advance_cp0]; exact h.cp0⟩

theorem SameSystem.of_store {va : DWord} {w : Width} {v : DWord} {mask : BitVec 8} (h : memWriteMasked s va w v mask = .ok u) :
    SameSystem s u := by
  obtain ⟨_, _, -, -, hu, -⟩ := memWriteMasked_eq_ok h
  rw [hu]
  exact ⟨rfl, rfl, rfl⟩

/-- The mode is the same, being a function of Status. -/
theorem SameSystem.mode (h : SameSystem s u) : currentMode u = currentMode s := by
  have hstatus : u.cp0.status = s.cp0.status := by rw [h.cp0]
  exact currentMode_of_status hstatus

/-- Without CP0 the effects left are those of the instructions that `RequireCP0()` does not guard; of these only the load-linked
instructions write a CP0 register. -/
theorem Effect.sameSystem (h : Effect i s f u) (hu : cp0Usable s = false) : SameSystem s u := by
  cases h with
  | write =>
    refine .writeReg ?_ _ _
    exact ⟨rfl, rfl, rfl⟩
  | branchLink _ _ v => exact SameSystem.refl.writeReg _ v
  | moveFrom _ v =>
    obtain ⟨htlb, htimer, hcp0⟩ := SameSystem.refl.writeReg (s := s) _ v
    exact ⟨htlb, htimer, hcp0⟩
  | linked _ v pa c d => exact ⟨writeReg_tlb _ _ _, writeReg_timer _ _ _, by rw [Machine.linked, writeReg_cp0]⟩
  | pair | stay | branch => exact ⟨rfl, rfl, rfl⟩
  | store _ h => exact .of_store h
  | storeAndWrite _ h _ x => exact (SameSystem.of_store h).writeReg _ x
  | eret _ _ hc | cp0Write _ hc | tlbRead _ hc | tlbWrite _ hc | tlbProbe _ hc | cacheData _ hc | cacheInstr _ hc =>
    rw [hu] at hc; cases hc

end

/-- Settles O50: where CP0 is not usable an instruction keeps the system's state, and with it the mode, or enters an exception. -/
theorem unprivilegedCannotChangeCp0 : Obligations.UnprivilegedCannotChangeCp0 := by
  intro i s t hm hc h
  rcases exec_next h with ⟨f, u, he, rfl⟩ | ⟨e, d, rfl⟩
  · have hk := (he.sameSystem (cp0Usable_eq_false hm hc)).advance f
    exact ⟨hk.tlb, hk.timer, .inl ⟨hk.mode, hk.cp0⟩⟩
  · have hpc : (takeException e { s with draws := d }).pc = (takeException e { s with draws := d }).pc + 4 - 4 :=
      (BitVec.add_sub_cancel _ _).symm
    exact ⟨takeException_tlb _ _, takeException_timer _ _, .inr ⟨currentMode_exceptionEntry { s with draws := d } e,
      takeException_exl _ _, hpc, takeException_regs _ _⟩⟩

/-! ## The interrupt check (R298, R299) -/

section
variable {s : State}

theorem Mi.line_iff (m : Mi) : m.line = true ↔ m.intr &&& m.mask ≠ 0 := by simp [Mi.line]

theorem and_ne_zero_iff {w : Nat} (v m : BitVec w) : v &&& m ≠ 0 ↔ ∃ j < w, v.getLsbD j = true ∧ m.getLsbD j = true := by
  rw [ne_eq, and_eq_zero_iff]
  simp [and_comm]

/-- Some pending line is enabled: lines 3 to 6 are tied to 0. -/
theorem enabledIP_ne_zero_iff (s : State) : enabledIP s ≠ 0 ↔
    (s.timer.pending = true ∧ s.cp0.status.getLsbD 15 = true) ∨
    (s.mi.intr &&& s.mi.mask ≠ 0 ∧ s.cp0.status.getLsbD 10 = true) ∨
    (s.cp0.cause.getLsbD 9 = true ∧ s.cp0.status.getLsbD 9 = true) ∨
    (s.cp0.cause.getLsbD 8 = true ∧ s.cp0.status.getLsbD 8 = true) := by
  have himask : ∀ k < 8, (statusIM s).getLsbD k = s.cp0.status.getLsbD (8 + k) := fun k hk => by simp [statusIM, hk]
  rw [enabledIP, and_ne_zero_iff, ← Mi.line_iff]
  constructor
  · rintro ⟨k, hk, hp, hm⟩
    rw [himask k hk] at hm
    rw [getLsbD_pendingIP s hk] at hp
    split_ifs at hp with h7 h2 h3
    · subst h7; exact .inl ⟨hp, hm⟩
    · subst h2; exact .inr (.inl ⟨hp, hm⟩)
    · have hk01 : k = 1 ∨ k = 0 := by omega
      rcases hk01 with rfl | rfl
      · exact .inr (.inr (.inl ⟨hp, hm⟩))
      · exact .inr (.inr (.inr ⟨hp, hm⟩))
  · have line : ∀ k < 8, (pendingIP s).getLsbD k = true → s.cp0.status.getLsbD (8 + k) = true →
        ∃ j < 8, (pendingIP s).getLsbD j = true ∧ (statusIM s).getLsbD j = true :=
      fun k hk hp hm => ⟨k, hk, hp, (himask k hk).trans hm⟩
    rintro (⟨hp, hm⟩ | ⟨hp, hm⟩ | ⟨hp, hm⟩ | ⟨hp, hm⟩)
    · exact line 7 (by decide) ((getLsbD_pendingIP s (by decide)).trans hp) hm
    · exact line 2 (by decide) ((getLsbD_pendingIP s (by decide)).trans hp) hm
    · exact line 1 (by decide) ((getLsbD_pendingIP s (by decide)).trans hp) hm
    · exact line 0 (by decide) ((getLsbD_pendingIP s (by decide)).trans hp) hm

theorem interruptDue_iff (hr : s.refused = none) : interruptDue s = true ↔
    s.core = .running ∧ statusIE s = true ∧ statusEXL s = false ∧ statusERL s = false ∧ enabledIP s ≠ 0 := by
  simp [interruptDue, hr, and_assoc]

theorem interruptCheck_due (h : interruptDue s = true) : interruptCheck s = exceptionEntry .int s := if_pos h

theorem interruptCheck_not_due (h : interruptDue s = false) : interruptCheck s = s := by simp [interruptCheck, h]

/-- An interrupt's entry draws a value for Cause.CE. -/
theorem exceptionEntry_int_ne (s : State) : exceptionEntry .int s ≠ s := fun h => by
  have hdraws : s.draws + 1 = s.draws := congrArg State.draws h
  omega

end

/-- Settles O51: an entry is never no change, so the check enters exactly when an interrupt is due. -/
theorem interruptCheckRule : Obligations.InterruptCheckRule := by
  intro s hr
  refine ⟨⟨fun h => ?_, interruptCheck_due⟩, interruptCheck_not_due, by rw [interruptDue_iff hr, enabledIP_ne_zero_iff]⟩
  rcases interruptCheck_cases s with ⟨hd, -⟩ | ⟨-, hs⟩
  · exact hd
  · exact absurd (h.symm.trans hs) (exceptionEntry_int_ne s)

end Sys2Proof.Machine
end

section
/-! PROOFS. The devices (60_exceptions.md R302 to R310): the MI registers, the VI registers and tick, and the timer. -/

namespace Sys2Proof.Machine

/-! ## The MI registers (R302 to R304) -/

section
variable {m : Mi} {v : Word}

theorem getLsbD_bit (b : Bool) {j : Nat} : (bit b).getLsbD j = if j = 0 then b else false := by
  rw [bit, BitVec.getLsbD_ofBool]; split <;> simp [*]

/-- MI_MODE as it is read, bit by bit. -/
theorem getLsbD_miRead_mode (p : Params) (m : Mi) {j : Nat} (hj : j < 32) : (miRead p m 0).getLsbD j =
    if j < 7 then m.initLength.getLsbD j else if j = 7 then m.initMode else if j = 8 then m.ebusTest
    else if j = 9 then m.rdramRegMode else false := by
  simp only [miRead, BitVec.getLsbD_setWidth, BitVec.getLsbD_append, getLsbD_bit, hj, decide_true, Bool.true_and]
  grind

theorem miWriteMask_refused (h : ∃ k < 6, v.getLsbD (2 * k) = true ∧ v.getLsbD (2 * k + 1) = true) :
    miWrite m 12 v = .error .miSetAndClear := by
  obtain ⟨k, hk, hclear, hset⟩ := h
  exact if_pos (List.any_eq_true.2 ⟨k, List.mem_range.2 hk, by rw [hclear, hset]; rfl⟩)

/-- Six bits laid out, each as it was put. -/
theorem getLsbD_sixBits (b : Nat → Bool) : ∀ k < 6,
    (bit (b 5) ++ bit (b 4) ++ bit (b 3) ++ bit (b 2) ++ bit (b 1) ++ bit (b 0)).getLsbD k = b k := by
  intro k hk
  interval_cases k <;> simp only [BitVec.getLsbD_append, getLsbD_bit] <;> rfl

theorem miWriteMask_ok (h : ∀ k < 6, ¬ (v.getLsbD (2 * k) = true ∧ v.getLsbD (2 * k + 1) = true)) :
    ∃ m', miWrite m 12 v = .ok m' ∧ m' = { m with mask := m'.mask } ∧ ∀ k < 6, m'.mask.getLsbD k = miMaskBit m.mask v k := by
  refine ⟨_, if_neg fun hany => ?_, rfl, getLsbD_sixBits (miMaskBit m.mask v)⟩
  obtain ⟨k, hk, hboth⟩ := List.any_eq_true.1 hany
  exact h k (List.mem_range.1 hk) (Bool.and_eq_true_iff.1 hboth)

/-- A write of MI_MODE clears and sets the same bit. -/
def modeConflict (v : Word) : Bool :=
  (v.getLsbD 7 && v.getLsbD 8) || (v.getLsbD 9 && v.getLsbD 10) || (v.getLsbD 12 && v.getLsbD 13)

theorem miWriteMode_refused (h : modeConflict v = true) : miWrite m 0 v = .error .miSetAndClear := if_pos h

theorem Mi.clearDp_eq (m : Mi) : m.clearDp = { m with intr := m.intr &&& 0b011111 } :=
  congrArg (fun x => { m with intr := x }) (putField_bit_clear 5 m.intr)

theorem Mi.setVi_false_eq (m : Mi) : m.setVi false = { m with intr := m.intr &&& 0b110111 } :=
  congrArg (fun x => { m with intr := x }) (putField_bit_clear 3 m.intr)

theorem Mi.setVi_true_eq (m : Mi) : m.setVi true = { m with intr := m.intr ||| 0b001000 } :=
  congrArg (fun x => { m with intr := x }) (putField_bit_set 3 m.intr)

theorem miWriteMode_ok (h : modeConflict v = false) : miWrite m 0 v = .ok { m with
    initLength := v.extractLsb' 0 7
    initMode := clearSet m.initMode (v.getLsbD 7) (v.getLsbD 8)
    ebusTest := clearSet m.ebusTest (v.getLsbD 9) (v.getLsbD 10)
    rdramRegMode := clearSet m.rdramRegMode (v.getLsbD 12) (v.getLsbD 13)
    intr := if v.getLsbD 11 then m.intr &&& 0b011111 else m.intr } := by
  refine (if_neg (by rw [← modeConflict, h]; exact Bool.false_ne_true)).trans ?_
  cases v.getLsbD 11
  · rfl
  · simp only [if_true, Mi.clearDp_eq]

end

/-- Settles O52: the writes of MI_MODE and MI_MASK by whether a bit is both cleared and set. -/
theorem miRegisters : Obligations.MiRegisters := fun p m _ =>
  ⟨rfl, rfl, rfl, fun _ hj => getLsbD_miRead_mode p m hj, rfl, rfl, miWriteMask_refused, miWriteMask_ok, miWriteMode_refused,
    fun h => ⟨_, miWriteMode_ok h, rfl, rfl, rfl, rfl, rfl, rfl⟩⟩

/-! ## The VI registers and tick (R306 to R309) -/

section
variable (p : Params) (vi : Vi) (mi : Mi) (v : Word) {j k : Nat}

theorem viRead_stored (h : k ≠ 4) : viRead p vi (4 * k) = vi.reg[k]?.getD 0 := by
  rw [viRead, if_neg (by omega), Nat.mul_div_cancel_left k (by decide)]

theorem viWrite_stored (h : k ≠ 4) : viWrite vi mi (4 * k) v = ({ vi with reg := vi.reg.setIfInBounds k v }, mi) := by
  rw [viWrite, if_neg (by omega), Nat.mul_div_cancel_left k (by decide)]

theorem viWrite_current : viWrite vi mi 0x10 v = (vi, { mi with intr := mi.intr &&& 0b110111 }) :=
  congrArg (Prod.mk vi) mi.setVi_false_eq

/-- A register reads what was written to it last. -/
theorem viRead_viWrite_same (h : k ≠ 4) (hk : k < 14) : viRead p (viWrite vi mi (4 * k) v).1 (4 * k) = v := by
  rw [viRead_stored _ _ h, viWrite_stored _ _ _ h]
  simp [hk]

/-- A write of a stored register changes no other register's read. -/
theorem viRead_viWrite_other (h : k ≠ 4) (hj : j ≠ k) : viRead p (viWrite vi mi (4 * k) v).1 (4 * j) = viRead p vi (4 * j) := by
  rw [viWrite_stored _ _ _ h]
  by_cases hcurrent : j = 4
  · subst hcurrent; rfl
  · rw [viRead_stored _ _ hcurrent, viRead_stored _ _ hcurrent]
    simp [Ne.symm hj]

theorem toNat_viRead_current : (viRead p vi 0x10).toNat = vi.cycles.toNat * p.viLines / p.budget % 1024 :=
  (BitVec.toNat_setWidth_of_le (b := BitVec.ofNat 10 _) (by decide)).trans (BitVec.toNat_ofNat _ _)

variable {elapsed : Nat}

theorem toNat_viTick_cycles :
    (viTick p elapsed vi mi).1.cycles.toNat = (vi.cycles.toNat + elapsed) % 2 ^ 64 % p.budget := by
  have hlt : (vi.cycles.toNat + elapsed) % 2 ^ 64 % p.budget < 2 ^ 64 :=
    Nat.lt_of_le_of_lt (Nat.mod_le _ _) (Nat.mod_lt _ (by decide))
  exact (BitVec.toNat_ofNat _ _).trans (Nat.mod_eq_of_lt hlt)

theorem viTick_boundary (h : p.budget ≤ (vi.cycles.toNat + elapsed) % 2 ^ 64) :
    (viTick p elapsed vi mi).2 = { mi with intr := mi.intr ||| 0b001000 } := (if_pos h).trans mi.setVi_true_eq

theorem viTick_inside (h : (vi.cycles.toNat + elapsed) % 2 ^ 64 < p.budget) : (viTick p elapsed vi mi).2 = mi :=
  if_neg (Nat.not_le.2 h)

end

/-! ## The timer (R310) -/

/-- Count reaches Compare after `m + 1` increments when Compare is `m` above the value after the first. -/
theorem eq_add_succ_iff (old compare : Word) (m : Nat) :
    compare = old + BitVec.ofNat 32 (m + 1) ↔ m % 2 ^ 32 = (compare - old - 1).toNat := by
  constructor <;> intro h <;> bv_omega

theorem timerPasses_iff_lt (old compare : Word) (n : Nat) : timerPasses old compare n = true ↔ (compare - old - 1).toNat < n := by
  have hlt := (compare - old - 1).isLt
  simp only [timerPasses, Bool.or_eq_true, Bool.and_eq_true, decide_eq_true_eq]
  omega

/-- The timer passes Compare when Compare is one of the values Count takes. -/
theorem timerPasses_iff (old compare : Word) (n : Nat) : timerPasses old compare n = true ↔
    ∃ k, 1 ≤ k ∧ k ≤ n ∧ compare = old + BitVec.ofNat 32 k := by
  rw [timerPasses_iff_lt]
  constructor
  · intro h
    exact ⟨_, by omega, h, (eq_add_succ_iff old compare _).2 (Nat.mod_eq_of_lt (compare - old - 1).isLt)⟩
  · rintro ⟨k, hpos, hle, hk⟩
    obtain ⟨m, rfl⟩ := Nat.exists_eq_add_of_le' hpos
    have hm := (eq_add_succ_iff old compare m).1 hk
    have := Nat.mod_le m (2 ^ 32)
    omega

theorem timerTick_count (p : Params) (elapsed : Nat) (c : Cp0) (t : Timer) : (timerTick p elapsed c t).1 =
    { c with count := c.count + BitVec.ofNat 32 ((t.countFrac + elapsed) / p.countDiv) } := by
  have hcount : BitVec.ofNat 32 (c.count.toNat + timerAdvance p elapsed t) = c.count + BitVec.ofNat 32 (timerAdvance p elapsed t) := by
    rw [BitVec.ofNat_add, BitVec.ofNat_toNat, BitVec.setWidth_eq]
  exact congrArg (fun x => { c with count := x }) hcount

/-- Settles O54: the values Count takes are those after 1 to `n` increments. -/
theorem timerTickRule : Obligations.TimerTickRule := by
  rintro p elapsed c t _ rfl
  refine ⟨timerTick_count p elapsed c t, rfl, ?_⟩
  rw [← timerPasses_iff]
  exact Bool.or_eq_true_iff

end Sys2Proof.Machine
end

section
/-! PROOFS. The framebuffer view (70_reset_and_hazards.md R327): the pixels by type, and where each is read. -/

namespace Sys2Proof.Machine

/-! ## Values of RDRAM (R327, 20_memory.md R73) -/

section
variable (m : Memory) (a : Nat)

theorem readBE_one_byte : (m.readBE a 1).setWidth 8 = m.read a := by simp [Memory.readBE]

/-- A big-endian value of one byte more has that byte below. -/
theorem readBE_succ_append {n : Nat} (hn : n < 8) :
    (m.readBE a (n + 1)).setWidth (8 * n + 8) = (m.readBE a n).setWidth (8 * n) ++ m.read (a + n) := by
  apply BitVec.eq_of_getLsbD_eq
  intro j hj
  simp only [Memory.readBE, BitVec.getLsbD_setWidth, BitVec.getLsbD_or, BitVec.getLsbD_shiftLeft, BitVec.getLsbD_append, hj,
    show j < 64 by omega, decide_true, Bool.true_and]
  by_cases h8 : j < 8
  · simp [h8]
  · simp [h8, show j - 8 < 8 * n by omega, BitVec.getLsbD_of_ge (m.read (a + n)) j (by omega)]

theorem readBE_half : (m.readBE a 2).setWidth 16 = m.read a ++ m.read (a + 1) := by
  rw [← readBE_one_byte m a]
  exact readBE_succ_append m a (n := 1) (by decide)

theorem readBE_word : low32 (m.readBE a 4) = m.read a ++ m.read (a + 1) ++ m.read (a + 2) ++ m.read (a + 3) := by
  have hthree : (m.readBE a 3).setWidth 24 = (m.readBE a 2).setWidth 16 ++ m.read (a + 2) :=
    readBE_succ_append m a (n := 2) (by decide)
  rw [← readBE_half, ← hthree]
  exact readBE_succ_append m a (n := 3) (by decide)

theorem ramRead_outside {s : State} {n : Nat} (h : s.params.rdramSize < a / n * n + n) : ramRead s a n = 0 := if_neg (Nat.not_le.2 h)

theorem ramRead_inside {s : State} {n : Nat} (h : a / n * n + n ≤ s.params.rdramSize) : ramRead s a n = s.mem.readBE (a / n * n) n :=
  if_pos h

end

/-! ## Pixels -/

section
variable {s : State} {x y k : Nat}

theorem getLsbD_expand5 (c : BitVec 5) (hk : k < 8) : (expand5 c).getLsbD k = c.getLsbD (if k < 3 then k + 2 else k - 3) := by
  simp only [expand5, BitVec.getLsbD_or, BitVec.getLsbD_shiftLeft, BitVec.getLsbD_ushiftRight, BitVec.getLsbD_setWidth, hk]
  by_cases h3 : k < 3
  · simp [h3, show k + 2 < 8 by omega, Nat.add_comm 2 k]
  · simp [h3, show k - 3 < 8 by omega, BitVec.getLsbD_of_ge c (2 + k) (by omega)]

/-- The channels of a 5551 pixel: red, green and blue widened to 8 bits, and the alpha bit repeated. -/
theorem getLsbD_pixel5551 (h : BitVec 16) (hk : k < 8) :
    (pixel5551 h).getLsbD (24 + k) = h.getLsbD (11 + (if k < 3 then k + 2 else k - 3)) ∧
    (pixel5551 h).getLsbD (16 + k) = h.getLsbD (6 + (if k < 3 then k + 2 else k - 3)) ∧
    (pixel5551 h).getLsbD (8 + k) = h.getLsbD (1 + (if k < 3 then k + 2 else k - 3)) ∧
    (pixel5551 h).getLsbD k = h.getLsbD 0 := by
  have channel (lo : Nat) : (expand5 (h.extractLsb' lo 5)).getLsbD k = h.getLsbD (lo + (if k < 3 then k + 2 else k - 3)) := by
    rw [getLsbD_expand5 _ hk, BitVec.getLsbD_extractLsb', decide_eq_true (by split <;> omega), Bool.true_and]
  have alpha : (if h.getLsbD 0 then (0xFF : BitVec 8) else 0).getLsbD k = h.getLsbD 0 := by
    cases h.getLsbD 0
    · simp
    · exact (by decide : ∀ k < 8, (0xFF : BitVec 8).getLsbD k = true) k hk
  unfold pixel5551
  simp only [BitVec.getLsbD_append]
  refine ⟨?red, ?green, ?blue, (if_pos hk).trans alpha⟩
  case red => rw [if_neg (by omega), if_neg (by omega), if_neg (by omega), show 24 + k - 8 - 8 - 8 = k by omega, channel]
  case green => rw [if_neg (by omega), if_neg (by omega), if_pos (by omega), show 16 + k - 8 - 8 = k by omega, channel]
  case blue => rw [if_neg (by omega), if_pos (by omega), show 8 + k - 8 = k by omega, channel]

/-- The type of the pixels: VI_STATUS[1:0]. -/
def viType (s : State) : Nat := s.vi.reg[0].toNat % 4

/-- The address of the first pixel: VI_ORIGIN[23:0]. -/
def viOrigin (s : State) : Nat := s.vi.reg[1].toNat % 2 ^ 24

/-- The number of a pixel in RDRAM, where a line holds VI_WIDTH[11:0] pixels. -/
def pixelIndex (s : State) (x y : Nat) : Nat := y * (s.vi.reg[2].toNat % 2 ^ 12) + x

theorem pixel_eq (s : State) (x y : Nat) : pixel s x y =
    if viType s = 2 then pixel5551 ((ramRead s (viOrigin s + 2 * pixelIndex s x y) 2).setWidth 16)
    else if viType s = 3 then low32 (ramRead s (viOrigin s + 4 * pixelIndex s x y) 4) else 0 := by
  have low (v : Word) (n : Nat) : (v.extractLsb' 0 n).toNat = v.toNat % 2 ^ n := BitVec.extractLsb'_toNat 0 n v
  simp only [pixel, ← BitVec.toNat_inj, low]
  rfl

theorem pixel_5551 (ht : viType s = 2) {a : Nat} (ha : a = (viOrigin s + 2 * pixelIndex s x y) / 2 * 2) :
    (s.params.rdramSize < a + 2 → pixel s x y = 0) ∧
    (a + 2 ≤ s.params.rdramSize → pixel s x y = pixel5551 (s.mem.read a ++ s.mem.read (a + 1))) := by
  subst ha
  rw [pixel_eq, if_pos ht]
  refine ⟨fun h => ?_, fun h => ?_⟩
  · rw [ramRead_outside _ h]; decide
  · rw [ramRead_inside _ h, readBE_half]

theorem pixel_8888 (ht : viType s = 3) {a : Nat} (ha : a = (viOrigin s + 4 * pixelIndex s x y) / 4 * 4) :
    (s.params.rdramSize < a + 4 → pixel s x y = 0) ∧
    (a + 4 ≤ s.params.rdramSize →
      pixel s x y = s.mem.read a ++ s.mem.read (a + 1) ++ s.mem.read (a + 2) ++ s.mem.read (a + 3)) := by
  subst ha
  rw [pixel_eq, if_neg (by omega), if_pos ht]
  refine ⟨fun h => ?_, fun h => ?_⟩
  · rw [ramRead_outside _ h]; decide
  · rw [ramRead_inside _ h, readBE_word]

theorem pixel_blank (h2 : viType s ≠ 2) (h3 : viType s ≠ 3) : pixel s x y = 0 := by rw [pixel_eq, if_neg h2, if_neg h3]

/-- Line `y` of the view is the pixels of that line. -/
theorem getFramebuffer_line (hy : y < s.params.fbHeight) :
    (getFramebuffer s)[y]? = some ((List.range s.params.fbWidth).map fun x => pixel s x y) := by
  simp [getFramebuffer, hy]

end

/-- Settles O53: the stored registers, the tick and the view each by their own lemmas. -/
theorem viDevice : Obligations.ViDevice := by
  refine ⟨fun p vi mi v k hk => ⟨fun h4 => ?stored, ?_, ?_, toNat_viRead_current p vi⟩, fun p elapsed vi mi total ht => ?tick,
    fun s x y hx hy => ?view⟩
  case stored =>
    exact ⟨viRead_viWrite_same p vi mi v h4 hk, by rw [viWrite_stored _ _ _ h4], fun j _ hj => viRead_viWrite_other p vi mi v h4 hj⟩
  · rw [viWrite_current]
  · rw [viWrite_current]
  case tick =>
    subst ht
    exact ⟨toNat_viTick_cycles p vi mi, rfl, viTick_boundary p vi mi, viTick_inside p vi mi⟩
  case view =>
    refine ⟨by simp [getFramebuffer], _, pixel s x y, getFramebuffer_line hy, by simp, by simp [hx], ?_⟩
    rintro _ _ _ rfl rfl rfl
    refine ⟨fun ht a ha => ?_, fun ht a ha => pixel_8888 ht ha, fun h2 h3 => pixel_blank h2 h3⟩
    obtain ⟨houtside, hinside⟩ := pixel_5551 (x := x) (y := y) ht ha
    refine ⟨houtside, fun hsize h hh k hk => ?_⟩
    subst hh
    rw [hinside hsize]
    exact getLsbD_pixel5551 _ hk

end Sys2Proof.Machine
end

section
/-! PROOFS. The frame (70_reset_and_hazards.md R324 to R329): its start, what follows a step, and its end with the tick of the devices and
the interrupt check (60_exceptions.md R299, R313). -/

namespace Sys2Proof.Machine

/-! ## The start and the end of a frame (R328) -/

section
variable {s : State}

theorem openFrame_begin (h : s.frame.open_ = false) : openFrame s = { s with
    inputMask := s.pendingInput.getD s.inputMask, pendingInput := none,
    core := if s.core = .running ∧ s.shouldRun = false then .halted else s.core,
    frame := { open_ := true, fc := 0, ticked := 0, faulted := false, last := s.frame.last } } := by
  simp [openFrame, beginFrame, h]

theorem canStep_iff (s : State) : canStep s = true ↔ s.core = .running ∧ s.refused = none ∧ s.frame.fc < s.params.budget := by
  simp [canStep, and_assoc]

theorem endIfDone_running (hcore : s.core = .running) (hr : s.refused = none) (hfc : s.frame.fc < s.params.budget) :
    endIfDone s = .ok s := if_pos ((canStep_iff s).2 ⟨hcore, hr, hfc⟩)

theorem endIfDone_done (h : s.core ≠ .running ∨ s.params.budget ≤ s.frame.fc) : endIfDone s = endFrame s := by
  refine if_neg fun hc => ?_
  obtain ⟨hcore, -, hfc⟩ := (canStep_iff s).1 hc
  rcases h with h | h
  · exact h hcore
  · omega

/-- The end of a frame with no external agent active: the devices tick for the cycles left, interrupts are checked, the frame closes. -/
theorem endFrame_idle (hr : s.refused = none) (he : s.extActive = false) :
    endFrame s = .ok (closeFrame (interruptCheck (tickDevices (s.frame.fc - s.frame.ticked) s))) := by
  simp only [endFrame, devTick_idle hr he, bind, Except.bind, pure, Except.pure]

/-! ## What the interrupt check keeps -/

/-- What the interrupt's entry keeps, the check keeps. -/
theorem interruptCheck_keeps {α : Type} (part : State → α) (h : part (exceptionEntry .int s) = part s) :
    part (interruptCheck s) = part s := by
  rcases interruptCheck_cases s with ⟨-, hi⟩ | ⟨-, hi⟩ <;> rw [hi]
  exact h

theorem interruptCheck_frame (s : State) : (interruptCheck s).frame = s.frame :=
  interruptCheck_keeps State.frame (exceptionEntry_frame .int s)

theorem interruptCheck_refused (s : State) : (interruptCheck s).refused = s.refused :=
  interruptCheck_keeps State.refused (exceptionEntry_refused .int s)

theorem interruptCheck_mi (s : State) : (interruptCheck s).mi = s.mi := interruptCheck_keeps State.mi (exceptionEntry_mi .int s)

theorem interruptCheck_count (s : State) : (interruptCheck s).cp0.count = s.cp0.count := by
  refine interruptCheck_keeps (fun t => t.cp0.count) ?_
  obtain ⟨_, _, _, _, _, _, _, hc⟩ := exceptionEntry_cp0_frame s .int
  rw [hc]

/-- No interrupt is due inside an exception. -/
theorem interruptDue_exl (h : interruptDue s = true) : statusEXL s = false := by
  simp only [interruptDue, Bool.and_eq_true, Bool.not_eq_true'] at h
  obtain ⟨⟨⟨-, hexl⟩, -⟩, -⟩ := h
  exact hexl

/-- An interrupt that is due goes to the common vector, saves where to restart and sets EXL; its ExcCode is 0. -/
theorem interruptCheck_entered (h : interruptDue s = true) :
    (interruptCheck s).pc = (if statusBEV s then 0xFFFFFFFFBFC00380 else 0xFFFFFFFF80000180) ∧
    statusEXL (interruptCheck s) = true ∧
    (interruptCheck s).cp0.epc = (if s.inDelaySlot then s.pc - 4 else s.pc) ∧
    (interruptCheck s).cp0.cause.extractLsb' 2 5 = 0 := by
  rw [interruptCheck_due h]
  refine ⟨?_, takeException_exl .int s, exceptionEntry_epc (interruptDue_exl h) .int, takeException_code .int s⟩
  have hvector := takeException_vector .int s
  cases hb : statusBEV s <;> rw [hb] at hvector <;> exact hvector

/-! ## After a step (R328) -/

theorem afterStep_frame (hg : s.params.granularity = .frame) : afterStep s = endIfDone (countStep s) := by
  simp only [afterStep, stepTick, countStep_params, hg, bind, Except.bind]

theorem afterStep_step (hg : s.params.granularity = .step) (hr : s.refused = none) (he : s.extActive = false) :
    afterStep s = endIfDone (interruptCheck { tickDevices s.params.cpi s with
      frame := { (countStep s).frame with ticked := (countStep s).frame.fc } }) := by
  have htick : devTick s.params.cpi (countStep s) = .ok (tickDevices s.params.cpi (countStep s)) := devTick_idle hr he
  simp only [afterStep, stepTick, countStep_params, hg, htick, bind, Except.bind, pure, Except.pure]
  rfl

/-! ## The tick (60_exceptions.md R309, R310, R313) -/

theorem tickDevices_count (n : Nat) (s : State) :
    (tickDevices n s).cp0.count = s.cp0.count + BitVec.ofNat 32 ((s.timer.countFrac + n) / s.params.countDiv) :=
  congrArg Cp0.count (timerTick_count s.params n s.cp0 s.timer)

/-- A tick that passes the frame boundary raises the VI interrupt. -/
theorem tickDevices_vi {n : Nat} (h : s.params.budget ≤ (s.vi.cycles.toNat + n) % 2 ^ 64) :
    (tickDevices n s).mi.intr.getLsbD 3 = true := by
  have hmi : (tickDevices n s).mi = { s.mi with intr := s.mi.intr ||| 0b001000 } := viTick_boundary _ _ _ h
  rw [hmi, BitVec.getLsbD_or, show (0b001000 : BitVec 6).getLsbD 3 = true from rfl, Bool.or_true]

/-- A whole budget ticked at the end of a frame: the VI interrupt is raised and Count has advanced for the budget. -/
theorem endIfDone_budget (hr : s.refused = none) (he : s.extActive = false) (ht : s.frame.ticked = 0)
    (hfc : s.frame.fc = s.params.budget) (hsum : s.vi.cycles.toNat + s.params.budget < 2 ^ 64) :
    ∃ t, endIfDone s = .ok t ∧ t.mi.intr.getLsbD 3 = true ∧
      t.cp0.count = s.cp0.count + BitVec.ofNat 32 ((s.timer.countFrac + s.params.budget) / s.params.countDiv) := by
  have hend := (endIfDone_done (.inr hfc.ge)).trans (endFrame_idle hr he)
  rw [ht, hfc, Nat.sub_zero] at hend
  refine ⟨_, hend, ?vi, ?count⟩
  case vi =>
    rw [closeFrame_mi, interruptCheck_mi]
    exact tickDevices_vi (by rw [Nat.mod_eq_of_lt hsum]; omega)
  case count => rw [closeFrame_cp0, interruptCheck_count, tickDevices_count]

/-! ## A frame in which the core does not run -/

theorem beginFrame_core (h : s.core ≠ .running) : (beginFrame s).core = s.core := by simp [beginFrame, h]

/-- The step of a core that does not run is an empty frame. -/
theorem step_not_running (hr : s.refused = none) (hcore : s.core ≠ .running) (he : s.extActive = false) (ho : s.frame.open_ = false) :
    step s = .next (closeFrame (tickDevices 0 (beginFrame s))) := by
  have hopen : openFrame s = beginFrame s := by simp [openFrame, ho]
  have hidle : (beginFrame s).core ≠ .running := by rw [beginFrame_core hcore]; exact hcore
  have hcan : canStep (beginFrame s) = false := by simp [canStep, hidle]
  have hdue : interruptDue (tickDevices 0 (beginFrame s)) = false := by simp [interruptDue, hidle]
  have hend : endFrame (beginFrame s) = .ok (closeFrame (tickDevices 0 (beginFrame s))) := by
    rw [endFrame_idle (s := beginFrame s) hr he, show (beginFrame s).frame.fc - (beginFrame s).frame.ticked = 0 from rfl,
      interruptCheck_not_due hdue]
  simp [step, schedulerStep, schedulerRun, hr, hopen, hcan, hend, settle]

end

/-- Settles O55, clause by clause: the frame's start, the work after a step, the frame's end, and the host calls. -/
theorem frameRules : Obligations.FrameRules := by
  intro s
  refine ⟨openFrame_begin, afterStep_frame, afterStep_step, endIfDone_running, fun hr he hdone u hu => ?ends,
    fun hr hcore he ho hfrac => ?idle, endIfDone_budget, rfl, rfl, fun _ => rfl, fun ho mask => ?input, fun ho hcore => ?stops⟩
  case ends =>
    subst hu
    refine ⟨(endIfDone_done hdone).trans (endFrame_idle hr he), ?_, interruptCheck_entered⟩
    simp only [closeFrame, frameResult, interruptCheck_frame, interruptCheck_refused, tickDevices_frame, tickDevices_refused, hr]
  case idle =>
    refine ⟨_, step_not_running hr hcore he ho, rfl, rfl, rfl, rfl, ?_, rfl, ?_⟩
    · rw [closeFrame_cp0, tickDevices_count]
      simp [Nat.div_eq_of_lt hfrac]
    · simp [closeFrame, frameResult, beginFrame, hr]
  case input => rw [openFrame_begin (s := setInputState mask s) ho]; rfl
  case stops =>
    refine ⟨hcore, ?_⟩
    rw [openFrame_begin (s := stop s) ho]
    exact if_pos ⟨hcore, rfl⟩

end Sys2Proof.Machine
end

section
/-! PROOFS. The cartridge image (70_reset_and_hazards.md R323): what a list of written bytes reads as, and `loadImage` by the length of
its image. -/

namespace Sys2Proof.Machine

/-! ## A list of bytes in memory -/

/-- A store of a list of bytes changes no byte outside it. -/
theorem Memory.read_writeBytes_outside (m : Memory) (a b : Nat) (bs : List Byte) (h : b < a ∨ a + bs.length ≤ b) :
    (m.writeBytes a bs).read b = m.read b := by
  induction bs generalizing m a with
  | nil => rfl
  | cons v bs ih =>
    rw [List.length_cons] at h
    calc ((m.write a v).writeBytes (a + 1) bs).read b
      _ = (m.write a v).read b := ih _ _ (by omega)
      _ = m.read b := Memory.read_write_other _ _ _ _ (by omega)

/-- Each byte of a stored list reads back: the later bytes of the list leave the earlier ones. -/
theorem Memory.read_writeBytes_inside (m : Memory) (a : Nat) (bs : List Byte) {i : Nat} (h : i < bs.length) :
    (m.writeBytes a bs).read (a + i) = bs[i] := by
  induction bs generalizing m a i with
  | nil => exact absurd h (Nat.not_lt_zero i)
  | cons v bs ih =>
    cases i with
    | zero =>
      exact (Memory.read_writeBytes_outside _ _ _ bs (.inl (by omega))).trans (Memory.read_write_same m a v)
    | succ i =>
      rw [show a + (i + 1) = a + 1 + i by omega]
      exact ih (m.write a v) (a + 1) (Nat.lt_of_succ_lt_succ h)

/-! ## `loadImage` by the length of its image -/

/-- Dropping the cartridge image changes no byte outside its window. -/
theorem withoutImage_read_outside (p : Params) (m : Memory) {a : Nat} (h : a < cartBase ∨ cartBase + p.romWindow ≤ a) :
    (withoutImage p m).read a = m.read a := by
  unfold withoutImage
  rw [Memory.read_filter _ (fun k => !decide (cartBase ≤ k ∧ k < cartBase + p.romWindow)), if_pos]
  rw [Bool.not_eq_true', decide_eq_false_iff_not]
  omega

section
variable {s : State} {bytes : List Byte}

theorem loadImage_empty : loadImage [] s = .error .empty := rfl

theorem loadImage_tooLarge (h : s.params.romWindow < bytes.length) : loadImage bytes s = .error .tooLarge := by
  unfold loadImage
  rw [if_neg (by omega), if_pos h]

theorem loadImage_ok (hne : bytes ≠ []) (hlen : bytes.length ≤ s.params.romWindow) :
    loadImage bytes s =
      .ok { s with mem := (withoutImage s.params s.mem).writeBytes cartBase bytes, romLen := bytes.length } := by
  unfold loadImage
  rw [if_neg (by simpa using hne), if_neg (Nat.not_lt.2 hlen)]

end

/-- Settles O58: the installed bytes read back as a written list does, and outside the window neither the drop of the old image nor the
write of the new one, which fits the window, reaches. -/
theorem loadImageRule : Obligations.LoadImageRule := by
  intro s bytes
  refine ⟨fun hnil => hnil ▸ loadImage_empty, loadImage_tooLarge, fun hne hlen => ⟨_, loadImage_ok hne hlen, rfl, ?image, ?outside⟩⟩
  case image => exact fun i hi => Memory.read_writeBytes_inside _ cartBase bytes hi
  case outside =>
    intro a ha
    have hbytes : a < cartBase ∨ cartBase + bytes.length ≤ a := ha.imp_right (Nat.add_le_add_left hlen cartBase).trans
    exact (Memory.read_writeBytes_outside _ _ _ bytes hbytes).trans (withoutImage_read_outside _ _ ha)

end Sys2Proof.Machine
end
